-- ==== Sys2Proof/Word.lean ====
section
/-! DEFINITION. The word types of the Palwen T640: the bytes that cross the host link (chapter Message Formats),
the two-byte fields and check values, and the 32-bit stamps of the Capture Unit's time base (R41). -/

namespace Sys2Proof

/-- One byte of a frame, of a record's wire form or of a pool segment. -/
abbrev Byte := BitVec 8

/-- A two-byte field of a payload, and the 16-bit check value of a directory entry (R15). -/
abbrev Word16 := BitVec 16

/-- A value of the capture time base, in µs, wrapping from 4,294,967,295 to 0 (R41). -/
abbrev Stamp := BitVec 32

/-- The four address-strap combinations of ADR1 and ADR0, ADR0 the less significant (R156). -/
abbrev Straps := BitVec 2

/-- An emitter mask, E0 in the least significant bit (Section 1.5). -/
abbrev Mask := BitVec 4

end Sys2Proof
end

