-- ==== Sys2Proof/Config.lean ====
section
/-! DEFINITION. What the specification leaves open, as constants with no body: nothing can be proved of their values
beyond their types (log entries 1 to 4 and 18). -/

namespace Sys2Proof

/-- The 16-bit cyclic redundancy check of a record's wire-form bytes.  R15 names the check and gives neither its
polynomial nor its start value (log entry 1). -/
opaque Config.checkValue : List Byte → Word16

/-- Whether a directory commit that a power loss, RSTN or RESET cuts short is found new (true) or old (false) by the
next mount, for the `n`-th such choice of the run: R24 and Table 3-5 allow both (log entry 2). -/
opaque Config.commitLanded : Nat → Bool

/-- Whether the Recognizer (true) or the Learn Unit (false) acts first on its copy of a SENSE frame, for the `n`-th
such choice of the run: Section 13.1 allows both orders (log entry 3). -/
opaque Config.recognizerFirst : Nat → Bool

/-- The measured carrier (units of 100 Hz) of a frame whose contributing groups have a mean period of zero, from the
sum of their pulse widths and their pulse count; R53 divides by that period and states no value (log entry 4). -/
opaque Config.carrierOfZeroPeriod : Nat → Nat → Nat

/-- The reported duty in the case of `Config.carrierOfZeroPeriod`, as an index into 25, 33, 50 (log entry 4). -/
opaque Config.dutyOfZeroPeriod : Nat → Nat → Fin 3

/-- The current step, counted from 0, that JOB_STATUS reports of a SEQUENCE that is still QUEUED, from the job's id and the
moment: Table 7-1 gives the field 1 to 16 and R109 sets it at activation, so no rule gives it before (log entry 18). -/
opaque Config.queuedStep : Nat → Nat → Fin 16

end Sys2Proof
end

