-- ==== Sys2Proof/Syntax.lean ====
section
/-! DEFINITION. The commands of the T640, one constructor for each row of spec/opcode_table.json.

Every command carries `dt`, the time that passes before it, in ticks of 25 ns (the finest resolution the specification
names, R39): the table has no row for the passing of time (log entry 5).  A request row carries the request's tag
and its payload fields as the bytes that cross the link (Tables 11-1 and 11-8); the four kinds whose payload carries its
own counts (R174) carry the payload whole. -/

namespace Sys2Proof

/-- The emitters E0 to E3 (Section 1.5). -/
inductive Emitter where
  | e0 | e1 | e2 | e3
  deriving DecidableEq, Repr

/-- The two receiver inputs and their capture contexts (R39, R40). -/
inductive Source where
  | learn | sense
  deriving DecidableEq, Repr

/-- One constructor for each row of the table, in the table's order. -/
inductive Instr where
  /-- POWER_ON (R182); `straps` are the levels of ADR1 and ADR0. -/
  | powerOn (dt : Nat) (straps : Straps)
  /-- RSTN_ASSERTED (R182). -/
  | rstnAsserted (dt : Nat) (straps : Straps)
  /-- RSTN_RELEASED (R182). -/
  | rstnReleased (dt : Nat)
  /-- MOUNT_SCAN_COMPLETE (R34); `decayed` lists the segments that the scan reads otherwise than they were left. -/
  | mountScanComplete (dt : Nat) (decayed : List (Nat × List Byte))
  /-- MOUNT_REPAIR_COMMIT (R35). -/
  | mountRepairCommit (dt : Nat)
  /-- MOUNT_RECLAIM_ERASE (R36). -/
  | mountReclaimErase (dt : Nat)
  /-- ADDRESS_BYTE (R158): an address byte on the bus, `read` its direction bit. -/
  | addressByte (dt : Nat) (address : BitVec 7) (read : Bool)
  /-- WRITE_END (R160). -/
  | writeEnd (dt : Nat)
  /-- PENDING_FRAME_TAKEN (R162). -/
  | pendingFrameTaken (dt : Nat)
  /-- MESSAGE_SENT (R165): the last byte of the frame being read; `acked` says whether the host acknowledged it. -/
  | messageSent (dt : Nat) (acked : Bool)
  /-- READ_END (R167). -/
  | readEnd (dt : Nat)
  /-- LINK_RELEASE (R169); LREL stays low for `lowFor` more ticks. -/
  | linkRelease (dt : Nat) (lowFor : Nat)
  /-- GET_STATUS (R190). -/
  | getStatus (dt : Nat) (tag : Byte)
  /-- CONFIGURE (R188). -/
  | configure (dt : Nat) (tag : Byte) (payload : List Byte)
  /-- READ_CONFIG (R189). -/
  | readConfig (dt : Nat) (tag : Byte) (payload : List Byte)
  /-- STANDBY (R184). -/
  | standby (dt : Nat) (tag : Byte)
  /-- RESET (R183). -/
  | reset (dt : Nat) (tag : Byte)
  /-- LEARN_START (R62). -/
  | learnStart (dt : Nat) (tag source window : Byte) (hint : Word16)
  /-- LEARN_STOP (R63). -/
  | learnStop (dt : Nat) (tag : Byte)
  /-- READ_STAGED (R64). -/
  | readStaged (dt : Nat) (tag : Byte)
  /-- STORE (R20). -/
  | store (dt : Nat) (tag : Byte) (payload : List Byte)
  /-- ERASE (R26). -/
  | erase (dt : Nat) (tag slot : Byte)
  /-- SET_CODE_FLAGS (R27). -/
  | setCodeFlags (dt : Nat) (tag slot flags : Byte)
  /-- READ_CODE (R29). -/
  | readCode (dt : Nat) (tag slot : Byte)
  /-- LIST_CODES (R30). -/
  | listCodes (dt : Nat) (tag first count : Byte)
  /-- SEND (R107). -/
  | send (dt : Nat) (tag mask slot frames : Byte)
  /-- HOLD (R107). -/
  | hold (dt : Nat) (tag mask slot limit : Byte)
  /-- SEQUENCE (R107). -/
  | sequence (dt : Nat) (tag : Byte) (payload : List Byte)
  /-- RELEASE (R115). -/
  | release (dt : Nat) (tag job : Byte)
  /-- CANCEL (R114). -/
  | cancel (dt : Nat) (tag job : Byte)
  /-- FLUSH (R116). -/
  | flush (dt : Nat) (tag mask : Byte)
  /-- JOB_STATUS (R117). -/
  | jobStatus (dt : Nat) (tag job : Byte)
  /-- EMITTER_CONTROL with the action DISABLE (R118). -/
  | disable (dt : Nat) (tag emitter : Byte)
  /-- EMITTER_CONTROL with the action ENABLE (R118). -/
  | enable (dt : Nat) (tag emitter : Byte)
  /-- EMITTER_CONTROL with the action CLEAR_FAULT (R119). -/
  | clearFault (dt : Nat) (tag emitter : Byte)
  /-- EMITTER_CONTROL with the action NEAR_ON (R119). -/
  | nearOn (dt : Nat) (tag emitter : Byte)
  /-- EMITTER_CONTROL with the action NEAR_OFF (R119). -/
  | nearOff (dt : Nat) (tag emitter : Byte)
  /-- ROUTE_SET (R145). -/
  | routeSet (dt : Nat) (tag index source trigger action target mask frames limit report : Byte)
  /-- ROUTE_CLEAR (R146). -/
  | routeClear (dt : Nat) (tag index : Byte)
  /-- ROUTE_READ (R146). -/
  | routeRead (dt : Nat) (tag index : Byte)
  /-- SEGMENT_VERIFY (R22); `agrees` says whether the read-back agrees with the bytes written. -/
  | segmentVerify (dt : Nat) (agrees : Bool)
  /-- COMMIT (R24). -/
  | commit (dt : Nat)
  /-- SEGMENT_ERASED (R25). -/
  | segmentErased (dt : Nat)
  /-- CANDIDATE_MARK_BEGINS (R43): the input goes from inactive to active. -/
  | candidateMarkBegins (dt : Nat) (input : Source)
  /-- GLITCH_LIMIT_REACHED (R44). -/
  | glitchLimitReached (dt : Nat) (input : Source)
  /-- MARK_ENDS (R44): the input goes from active to inactive. -/
  | markEnds (dt : Nat) (input : Source)
  /-- ENVELOPE_MARK_END (R51), on the LEARN input. -/
  | envelopeMarkEnd (dt : Nat)
  /-- FRAME_GAP_REACHED (R46). -/
  | frameGapReached (dt : Nat) (input : Source)
  /-- LONG_MARK (R49). -/
  | longMark (dt : Nat) (input : Source)
  /-- SETTLING_DONE (R50). -/
  | settlingDone (dt : Nat) (input : Source)
  /-- WINDOW_EXPIRY (R65). -/
  | windowExpiry (dt : Nat)
  /-- END_GAP_EXPIRY (R68). -/
  | endGapExpiry (dt : Nat)
  /-- RELEASE_TIMER_EXPIRY (R91). -/
  | releaseTimerExpiry (dt : Nat)
  /-- FRAME_START (R126) of the frame of the job named. -/
  | frameStart (dt : Nat) (job : Nat)
  /-- ELEMENT_END (R127). -/
  | elementEnd (dt : Nat) (job : Nat)
  /-- FRAME_END (R128). -/
  | frameEnd (dt : Nat) (job : Nat)
  /-- PAUSE_END (R132). -/
  | pauseEnd (dt : Nat) (job : Nat)
  /-- SEND_STEP_START (R133). -/
  | sendStepStart (dt : Nat) (job : Nat)
  /-- HOLD_DEADLINE_EXPIRY (R131). -/
  | holdDeadlineExpiry (dt : Nat) (job : Nat)
  /-- OPEN_WINDOW_CLOSE (R136): the window closes and no drive current was sensed in it. -/
  | openWindowClose (dt : Nat) (emitter : Emitter)
  /-- OVERCURRENT (R137) on the sense input of the emitter. -/
  | overcurrent (dt : Nat) (emitter : Emitter)
  /-- MASK_WINDOW_CLOSE (R141). -/
  | maskWindowClose (dt : Nat) (emitter : Emitter)
  /-- STANDBY_ENTRY (R185). -/
  | standbyEntry (dt : Nat)
  /-- WAKE_COMPLETION (R187). -/
  | wakeCompletion (dt : Nat)
  /-- POWER_LOSS (R33). -/
  | powerLoss (dt : Nat)
  /-- DATA_BYTE_WRITTEN (R159). -/
  | dataByteWritten (dt : Nat) (byte : Byte)
  /-- BYTE_SENT (R165): a byte that is not the last of its frame; `acked` as in `messageSent`. -/
  | byteSent (dt : Nat) (acked : Bool)
  /-- CARRIER_PULSE_EDGE (R127) on the output of the emitter. -/
  | carrierPulseEdge (dt : Nat) (emitter : Emitter)
  deriving DecidableEq, Repr

end Sys2Proof
end

