-- ==== Sys2Proof/WellFormed.lean ====
section
/-! DEFINITION. Which commands are well formed: frames within the payload length of R173, job ids within R100, decayed
segments within R16 and R17. -/

namespace Sys2Proof

/-- The longest payload of a frame (R173). -/
def maxPayload : Nat := 300

/-- A payload that a frame can carry (R173). -/
def payloadWellFormed (p : List Byte) : Bool := decide (p.length ≤ maxPayload)

/-- A job id (R100). -/
def jobWellFormed (job : Nat) : Bool := decide (1 ≤ job ∧ job ≤ 255)

/-- A segment read by the scan: one of the 640, of 32 bytes (R16, R17). -/
def decayWellFormed (d : Nat × List Byte) : Bool := decide (d.1 < 640 ∧ d.2.length = 32)

/-- Whether a command is one that the table's row can stand for; a command whose fields are bytes, levels and emitters is
always well formed. -/
def Instr.wellFormed (i : Instr) : Bool :=
  match i with
  | .mountScanComplete _ decayed => decayed.all decayWellFormed
  | .configure _ _ p | .readConfig _ _ p | .store _ _ p | .sequence _ _ p => payloadWellFormed p
  | .frameStart _ job | .elementEnd _ job | .frameEnd _ job | .pauseEnd _ job | .sendStepStart _ job
  | .holdDeadlineExpiry _ job => jobWellFormed job
  | .powerOn .. | .rstnAsserted .. | .rstnReleased .. | .mountRepairCommit .. | .mountReclaimErase .. | .addressByte ..
  | .writeEnd .. | .pendingFrameTaken .. | .messageSent .. | .readEnd .. | .linkRelease .. | .getStatus .. | .standby ..
  | .reset .. | .learnStart .. | .learnStop .. | .readStaged .. | .erase .. | .setCodeFlags .. | .readCode ..
  | .listCodes .. | .send .. | .hold .. | .release .. | .cancel .. | .flush .. | .jobStatus .. | .disable .. | .enable ..
  | .clearFault .. | .nearOn .. | .nearOff .. | .routeSet .. | .routeClear .. | .routeRead .. | .segmentVerify ..
  | .commit .. | .segmentErased .. | .candidateMarkBegins .. | .glitchLimitReached .. | .markEnds .. | .envelopeMarkEnd ..
  | .frameGapReached .. | .longMark .. | .settlingDone .. | .windowExpiry .. | .endGapExpiry .. | .releaseTimerExpiry ..
  | .openWindowClose .. | .overcurrent .. | .maskWindowClose .. | .carrierPulseEdge .. | .standbyEntry ..
  | .wakeCompletion .. | .powerLoss .. | .dataByteWritten .. | .byteSent .. => true

end Sys2Proof
end

