-- ==== Sys2Proof/Decode.lean ====
section
/-! DEFINITION. Commands spelled by words of spec/opcode_table.json. -/

namespace Sys2Proof

/-- The command that a word spells by the table's bits.  Every row of the table has an empty list of fields: the commands
are events and whole frames, not words, so no word spells one (log entry 16). -/
def decodeTableWord (_nbits _w : Nat) : Option Instr := none

end Sys2Proof
end

