-- ==== Sys2Proof/Machine/State.lean ====
section
/-! DEFINITION. The state of the T640: every block of Table 1-1 with every field the specification gives it, the pins, and
the queue of commands that wait.  Moments are counted in ticks of 25 ns from the end of the last reset (log entry 5). -/

namespace Sys2Proof.Machine

/-! ### The code record (R1, R2) and the library (R15 to R18) -/

/-- One pair of a pair list: a mark class and a space class, `none` being END (R2). -/
structure Pair where
  mark : Nat
  space : Option Nat
  deriving DecidableEq, Repr

/-- A code record with the eight fields of Table 2-1; an empty `later` is an absent repeat part. -/
structure Record where
  carrier : Nat
  duty : Nat
  classes : List Nat
  body : List Pair
  later : List Pair
  interval : Nat
  minFrames : Nat
  label : List Byte
  deriving DecidableEq, Repr

/-- The three slot flags of R13. -/
structure SlotFlags where
  recognize : Bool
  notify : Bool
  wake : Bool
  deriving DecidableEq, Repr

/-- A VALID directory entry (R15); an EMPTY slot has no entry. -/
structure DirEntry where
  flags : SlotFlags
  size : Nat
  chain : List Nat
  check : Word16
  deriving DecidableEq, Repr

/-- A pool segment that is not erased (R16): programmed with its bytes, or partly programmed or partly erased by an
operation cut short, or failed in its verify.  An erased segment is not listed. -/
inductive Segment where
  | programmed (bytes : List Byte)
  | spoiled
  deriving DecidableEq, Repr

/-- The kinds of a library operation (R18). -/
inductive LibKind where
  | store | erase | setFlags
  deriving DecidableEq, Repr

/-- The phases of a library operation (R18). -/
inductive LibPhase where
  | programming (n m : Nat)
  | committing
  | releasing (n m : Nat)
  deriving DecidableEq, Repr

/-- The record of the operation in flight (R18), with what its commit is to write (R21, R22) and the moment its phase
ends (R19). -/
structure LibOp where
  kind : LibKind
  slot : Nat
  newChain : List Nat
  oldChain : List Nat
  phase : LibPhase
  tag : Byte
  flags : SlotFlags
  bytes : List Byte
  check : Word16
  due : Nat
  deriving DecidableEq, Repr

/-- The stage of a mount (R34 to R36) and the moment it ends: the directory scan, the repair commits still to be made
(the head in progress), the segments still to be erased (the head in progress). -/
inductive MountStage where
  | notBegun
  | scanning (due : Nat)
  | repairing (slots : List Nat) (due : Nat)
  | reclaiming (segments : List Nat) (due : Nat)
  deriving DecidableEq, Repr

/-- A mount with its two counts (R35, R36). -/
structure Mount where
  stage : MountStage
  repaired : Nat
  reclaimed : Nat
  deriving DecidableEq, Repr

/-- The Code Library: the VALID entries in ascending slot order, the segments that are not erased in ascending number,
the free set in ascending number, the operation in flight, the mount in progress. -/
structure Lib where
  directory : List (Nat × DirEntry)
  pool : List (Nat × Segment)
  free : List Nat
  op : Option LibOp
  mount : Option Mount
  deriving DecidableEq, Repr

/-! ### The Capture Unit (R40) -/

/-- The states of Table 4-1. -/
inductive CtxState where
  | off | idle | inFrame | masked | settling
  deriving DecidableEq, Repr

/-- A pulse group (R51): its pulse count, the starts of its first and last pulse, the end of its last ended pulse, and
the sum of the widths of its ended pulses. -/
structure PulseGroup where
  count : Nat
  first : Nat
  last : Nat
  lastEnd : Nat
  widths : Nat
  deriving DecidableEq, Repr

/-- The result of a carrier measurement (R53). -/
structure Measurement where
  carrier : Nat
  duty : Nat
  deriving DecidableEq, Repr

/-- A capture context (R40).  `mark` is the mark timer's start, `entered` tells a mark of the frame from a candidate,
`lastStart` the start of the last entered
mark (for the joining of R45), `gapFrom` is the gap timer's start, `armed` and `quietFrom` are the wait of R42, `group` and `groups` are the
pulse-grouping state, `measure` is the measure flag of R52. -/
structure Context where
  state : CtxState
  buffer : List Nat
  frameGap : Nat
  glitchLimit : Nat
  invert : Bool
  armed : Bool
  quietFrom : Option Nat
  frameStart : Nat
  mark : Option Nat
  entered : Bool
  lastStart : Nat
  gapFrom : Option Nat
  measure : Bool
  group : Option PulseGroup
  groups : List PulseGroup
  deriving DecidableEq, Repr

/-- The two contexts and the levels of the pins RXS and RXL. -/
structure Cap where
  sense : Context
  learn : Context
  rxs : Bool
  rxl : Bool
  deriving DecidableEq, Repr

/-! ### The Learn Unit (R61, R76) -/

/-- A frame taken by a session, with its stamps (Table 5-1). -/
structure Frame where
  durations : List Nat
  start : Stamp
  stop : Stamp
  deriving DecidableEq, Repr

/-- The two states of a running session (R61). -/
inductive SessionState where
  | waitingFirst | collecting
  deriving DecidableEq, Repr

/-- The session record of Table 5-1; an absent session is the state IDLE. -/
structure Session where
  state : SessionState
  source : Source
  hint : Nat
  start : Stamp
  tag : Byte
  windowDue : Option Nat
  gapExpiry : Option Stamp
  closing : Bool
  frames : List Frame
  measurement : Option Measurement
  deriving DecidableEq, Repr

/-- The Learn Unit: the running session, and the staged record (absent when EMPTY). -/
structure Lrn where
  session : Option Session
  staged : Option Record
  deriving DecidableEq, Repr

/-! ### The Recognizer (R80, R86, R97) -/

/-- An entry of the signature index (R80). -/
structure IndexEntry where
  classes : List Nat
  body : List Pair
  later : List Pair
  notify : Bool
  wake : Bool
  deriving DecidableEq, Repr

/-- The press record in PRESSED (Table 6-2); an absent press is the state IDLE. -/
structure Press where
  slot : Nat
  count : Nat
  notify : Bool
  due : Nat
  deriving DecidableEq, Repr

/-- The Recognizer: the signature index by slot, the press record, and the frames kept for a wake, the wake frame
first (R97). -/
structure Rec where
  index : List (Nat × IndexEntry)
  press : Option Press
  kept : List (List Nat)
  deriving DecidableEq, Repr

/-! ### The Route Table (R144) -/

/-- The kinds of route event (R92), and the triggers of a route entry. -/
inductive Trigger where
  | pressed | held | released
  deriving DecidableEq, Repr

/-- The actions of a route entry. -/
inductive RouteAction where
  | send | mirror
  deriving DecidableEq, Repr

/-- A SET route entry with the fields of Table 9-1; an EMPTY entry is not listed. -/
structure Route where
  source : Nat
  trigger : Trigger
  action : RouteAction
  target : Nat
  mask : Mask
  frames : Nat
  holdLimit : Nat
  report : Bool
  link : Option Nat
  deriving DecidableEq, Repr

/-! ### The Emission Scheduler (R99 to R105) -/

/-- A step of a SEQUENCE (Table 7-1). -/
inductive Step where
  | send (slot frames : Nat)
  | pause (ms : Nat)
  deriving DecidableEq, Repr

/-- The kind of a job with the fields that kind fixes at its admission. -/
inductive JobKind where
  | send (slot frames : Nat)
  | hold (slot limit : Nat)
  | sequence (steps : List Step)
  deriving DecidableEq, Repr

/-- The origin of a job (Table 7-1). -/
inductive Origin where
  | host (tag : Byte)
  | route (index : Nat)
  deriving DecidableEq, Repr

/-- The outcomes of Table 7-4, which are also the end reasons. -/
inductive JobOutcome where
  | done | released | holdLimit | cancelled | failedNoCode | failedFault | failedOff
  deriving DecidableEq, Repr

/-- The states of a live job (R101), ENDING with its end reason. -/
inductive JobState where
  | queued
  | active
  | ending (reason : JobOutcome)
  deriving DecidableEq, Repr

/-- A frame in progress (R127): its start, the number of the element in progress (marks even, spaces odd) and the nominal
end of that element. -/
structure FrameRun where
  start : Nat
  element : Nat
  stop : Nat
  deriving DecidableEq, Repr

/-- Where a job's one time line stands (Table 8-2): waiting for a frame start or, between two SEND steps, for a step
start; inside a frame; in a PAUSE step. -/
inductive PlayPhase where
  | gap (start : Nat)
  | stepGap (start : Nat)
  | frame (run : FrameRun)
  | pause (stop : Nat)
  deriving DecidableEq, Repr

/-- What the channels of an activated job play (Table 8-1: snapshot and position, one for all the job's channels, R126):
the snapshot, the frames completed of the job or of the current SEND step, and the phase. -/
structure Play where
  snapshot : Option Record
  stepFrames : Nat
  phase : PlayPhase
  deriving DecidableEq, Repr

/-- A job record (Table 7-1), with its time line once activated. -/
structure Job where
  id : Nat
  origin : Origin
  kind : JobKind
  mask : Mask
  report : Bool
  state : JobState
  early : Bool
  framesSent : Nat
  step : Nat
  deadline : Option Nat
  play : Option Play
  deriving DecidableEq, Repr

/-- An entry of the recently-ended list (R104). -/
structure Ended where
  id : Nat
  outcome : JobOutcome
  framesSent : Nat
  deriving DecidableEq, Repr

/-- One thing for each emitter. -/
structure PerEmitter (α : Type) where
  e0 : α
  e1 : α
  e2 : α
  e3 : α
  deriving DecidableEq, Repr

/-- The Emission Scheduler: the job table, the emitter queues of job ids (head first), the last id allocated, the
recently-ended list (oldest first). -/
structure Ems where
  jobs : List Job
  queues : PerEmitter (List Nat)
  lastId : Nat
  recent : List Ended
  deriving DecidableEq, Repr

/-! ### The emitter channels (R124) -/

/-- The drive faults (R136, R137). -/
inductive FaultKind where
  | opened | short
  deriving DecidableEq, Repr

/-- Whether a channel is in use, OFF or in FAULT; in use it follows the head of its queue (R103, R125). -/
inductive ChannelMode where
  | on
  | off
  | fault (kind : FaultKind)
  deriving DecidableEq, Repr

/-- A channel's mask window (R141): closed; open, with the MASK_TAIL read at its opening; open until a moment. -/
inductive MaskWindow where
  | closed
  | opened (tail : Nat)
  | closing (moment : Nat)
  deriving DecidableEq, Repr

/-- The drive of a mark on an output (R8, R127): the mark's start, the carrier and duty, the pulse count, the number of
the next pulse edge (starts even, ends odd), and whether the count was raised to 1.  A carrier of 0 is steady. -/
structure Drive where
  start : Nat
  carrier : Nat
  duty : Nat
  pulses : Nat
  edge : Nat
  raised : Bool
  deriving DecidableEq, Repr

/-- A channel record (Table 8-1): its mode and fault kind, the STOPPED phase after a CLEAR_FAULT (R135), the ready moment,
near flag, frame near, mask window, the drive in progress, the closes of the check windows in progress, oldest first (R136), and
the level of the output pin EMn.  State, phase, job, snapshot and position follow from these and the scheduler. -/
structure Channel where
  mode : ChannelMode
  stopped : Bool
  ready : Option Nat
  near : Bool
  frameNear : Bool
  window : MaskWindow
  drive : Option Drive
  check : List Nat
  out : Bool
  deriving DecidableEq, Repr

/-! ### Operating Control (R181, R188) -/

/-- The operating states of Table 12-2. -/
inductive OpState where
  | mounting | awake | standbyPending | standby | waking
  deriving DecidableEq, Repr

/-- The reset causes (R182). -/
inductive ResetCause where
  | power | pin | request
  deriving DecidableEq, Repr

/-- The causes of a wake in progress (R186, R187). -/
inductive WakeCause where
  | link
  | code (slot : Nat)
  deriving DecidableEq, Repr

/-- The parameter set of Table 12-4. -/
structure Params where
  frameGap : Nat
  glitchLimit : Nat
  matchTolerance : Nat
  releaseTimeout : Nat
  holdReportEvery : Nat
  reportUnknown : Nat
  learnWindow : Nat
  learnEndGap : Nat
  holdLimit : Nat
  minFrameGap : Nat
  senseEnable : Nat
  senseInvert : Nat
  learnInvert : Nat
  maskTail : Nat
  deriving DecidableEq, Repr

/-- The operating record of Table 12-1, with the moment of the wake completion; the five readiness conditions are
computed from their owners (`Machine.linkAtRest` and the rest). -/
structure Opc where
  state : OpState
  cause : ResetCause
  wake : Option WakeCause
  wakeDue : Nat
  params : Params
  deriving DecidableEq, Repr

/-! ### The Host Link (R157) -/

/-- The request kinds of Table 11-2. -/
inductive ReqKind where
  | getStatus | configure | readConfig | standby | reset
  | learnStart | learnStop | readStaged
  | store | erase | setCodeFlags | readCode | listCodes
  | send | hold | sequence | release | cancel | flush | jobStatus | emitterControl
  | routeSet | routeClear | routeRead
  deriving DecidableEq, Repr

/-- The status codes of Table 11-4. -/
inductive Status where
  | ok | accepted | badCheck | badLength | unknownKind | badArgument | badRecord | noCode | libBusy | noSpace
  | queueFull | tableFull | emitterOff | emitterFault | notFound | tooLate | wrongKind | wrongState | busy
  | learnActive | noStaged
  deriving DecidableEq, Repr

/-- The kinds of a queued outbound message (Table 11-3; an EMPTY frame is never queued, R166). -/
inductive MsgKind where
  | reply | ready | learnResult | libDone | pressed | held | released | unknownFrame | jobEnd | emitterFault | wake
  | routeDropped
  deriving DecidableEq, Repr

/-- An outbound message: its kind, tag byte and payload (R173). -/
structure Message where
  kind : MsgKind
  tag : Byte
  payload : List Byte
  deriving DecidableEq, Repr

/-- A frame checked at the end of a write (R160, R161): good, or rejected with a status. -/
inductive CheckedFrame where
  | good (kind : ReqKind) (tag : Byte) (payload : List Byte)
  | rejected (tag : Byte) (status : Status)
  deriving DecidableEq, Repr

/-- A pending frame with its reservation (Table 10-1): the reply size, the bytes held, whether a place is held. -/
structure Held where
  frame : CheckedFrame
  size : Nat
  bytes : Nat
  place : Bool
  deriving DecidableEq, Repr

/-- The link states of Table 10-2. -/
inductive LinkState where
  | closed | idle | receiving | pending | sending
  deriving DecidableEq, Repr

/-- The link record of Table 10-1, with the port address of R156, the bytes sent of an EMPTY frame, in progress since its
first byte was asked for (R166), and whether the host has ended its reading in the
transaction in progress (R165). -/
structure Link where
  state : LinkState
  address : BitVec 7
  inbound : List Byte
  held : Option Held
  queue : List Message
  readPos : Nat
  emptyPos : Option Nat
  handedOff : Bool
  missed : Nat
  seq : Byte
  deriving DecidableEq, Repr

/-! ### The whole part -/

/-- The pins and bus lines that no block record holds (Table 1-4): supply, RSTN, the moment until which LREL is low, the
acknowledge given to the last address or data byte, and the last byte sent to the host. -/
structure Pins where
  powered : Bool
  rstnLow : Bool
  lrelLowUntil : Nat
  acked : Bool
  sent : Byte
  deriving DecidableEq, Repr

/-- The state of the part.  `now` counts ticks since the end of the last reset; `draws` counts the free values used so far
(the model's own field); `pending` is the queue of commands that wait, first in, first out. -/
structure State where
  now : Nat
  draws : Nat
  pins : Pins
  opc : Opc
  link : Link
  lib : Lib
  cap : Cap
  lrn : Lrn
  rcg : Rec
  routes : List (Nat × Route)
  ems : Ems
  channels : PerEmitter Channel
  pending : List Instr
  deriving DecidableEq, Repr

/-- The faults of a step.  The specification names none that stops the part: every fault it describes (a drive fault, a
write fault, a capture error) is an effect on the state, so this type has no constructor. -/
inductive Fault where
  deriving DecidableEq, Repr

/-- The refusals of a step. -/
inductive Refusal where
  /-- Raised by `exec` for a row that has no meaning yet, named by its mnemonic.  Safe.  No arm of this model raises it. -/
  | notModelled (mnemonic : String)
  deriving DecidableEq, Repr

/-! ### Reset values -/

/-- The defaults of Table 12-4. -/
def Params.reset : Params :=
  { frameGap := 15, glitchLimit := 60, matchTolerance := 20, releaseTimeout := 130, holdReportEvery := 4,
    reportUnknown := 1, learnWindow := 10, learnEndGap := 150, holdLimit := 10, minFrameGap := 8, senseEnable := 1,
    senseInvert := 0, learnInvert := 0, maskTail := 5 }

/-- A capture context in OFF (R60); the working values stand at the parameter defaults (log entry 6). -/
def Context.reset : Context :=
  { state := .off, buffer := [], frameGap := 15, glitchLimit := 60, invert := false, armed := false, quietFrom := none,
    frameStart := 0, mark := none, entered := false, lastStart := 0, gapFrom := none, measure := false, group := none, groups := [] }

/-- A channel after every reset (R143). -/
def Channel.reset : Channel :=
  { mode := .on, stopped := false, ready := none, near := false, frameNear := false, window := .closed, drive := none,
    check := [], out := false }

/-- The same thing for every emitter. -/
def PerEmitter.all {α : Type} (a : α) : PerEmitter α := { e0 := a, e1 := a, e2 := a, e3 := a }

/-- The scheduler after every reset (R123). -/
def Ems.reset : Ems := { jobs := [], queues := PerEmitter.all [], lastId := 0, recent := [] }

/-- The Learn Unit after every reset (R79). -/
def Lrn.reset : Lrn := { session := none, staged := none }

/-- The Recognizer after every reset (R98). -/
def Rec.reset : Rec := { index := [], press := none, kept := [] }

/-- The operating record after a reset of the given cause (R182, R188); `wakeDue` has no meaning outside WAKING. -/
def Opc.reset (cause : ResetCause) : Opc :=
  { state := .mounting, cause := cause, wake := none, wakeDue := 0, params := Params.reset }

/-- The link record after every reset, at the port address given (R172). -/
def Link.reset (address : BitVec 7) : Link :=
  { state := .closed, address := address, inbound := [], held := none, queue := [], readPos := 0, emptyPos := none,
    handedOff := false, missed := 0, seq := 0 }

/-- The library of a new part at the beginning of its mount: every entry EMPTY (R15), no segment programmed, the scan of
R34 to end 5 ms (200,000 ticks) after the reset.  No segment is in the free set before mount puts it there (R36). -/
def Lib.reset : Lib :=
  { directory := [], pool := [], free := [], op := none,
    mount := some { stage := .scanning 200000, repaired := 0, reclaimed := 0 } }

/-- The part right after power-on of a new part, with the straps at 0 and RSTN high: MOUNTING with the scan in progress
(R182).  The levels of RXS and RXL, of the bus lines and the value of `draws` are the model's (log entry 7). -/
def State.reset : State :=
  { now := 0, draws := 0,
    pins := { powered := true, rstnLow := false, lrelLowUntil := 0, acked := false, sent := 0xFF },
    opc := Opc.reset .power, link := Link.reset 0x3A, lib := Lib.reset,
    cap := { sense := Context.reset, learn := Context.reset, rxs := true, rxl := false },
    lrn := Lrn.reset, rcg := Rec.reset, routes := [], ems := Ems.reset, channels := PerEmitter.all Channel.reset,
    pending := [] }

/-! ### Replacing one block -/

/-- The state with another value of `now`. -/
def State.withNow (s : State) (x : Nat) : State := { s with now := x }
/-- The state with another count of free values used. -/
def State.withDraws (s : State) (x : Nat) : State := { s with draws := x }
/-- The state with other pins. -/
def State.withPins (s : State) (x : Pins) : State := { s with pins := x }
/-- The state with another operating record. -/
def State.withOpc (s : State) (x : Opc) : State := { s with opc := x }
/-- The state with another link record. -/
def State.withLink (s : State) (x : Link) : State := { s with link := x }
/-- The state with another library. -/
def State.withLib (s : State) (x : Lib) : State := { s with lib := x }
/-- The state with another Capture Unit. -/
def State.withCap (s : State) (x : Cap) : State := { s with cap := x }
/-- The state with another Learn Unit. -/
def State.withLrn (s : State) (x : Lrn) : State := { s with lrn := x }
/-- The state with another Recognizer. -/
def State.withRcg (s : State) (x : Rec) : State := { s with rcg := x }
/-- The state with another route table. -/
def State.withRoutes (s : State) (x : List (Nat × Route)) : State := { s with routes := x }
/-- The state with another scheduler. -/
def State.withEms (s : State) (x : Ems) : State := { s with ems := x }
/-- The state with other channels. -/
def State.withChannels (s : State) (x : PerEmitter Channel) : State := { s with channels := x }
/-- The state with another queue of commands. -/
def State.withPending (s : State) (x : List Instr) : State := { s with pending := x }

end Sys2Proof.Machine
end

