-- ==== Sys2Proof/Machine/Ops.lean ====
section
/-! DEFINITION. The named operations every block uses: tables in ascending key order (the directory, the pool, the
signature index, the route table), the four emitters, time, and the free-value counter. -/

namespace Sys2Proof.Machine

/-! ### Tables in ascending key order -/

/-- What a table lists under a key. -/
def Table.get {α : Type} : List (Nat × α) → Nat → Option α
  | [], _ => none
  | (k, v) :: rest, key => if k = key then some v else Table.get rest key

/-- The table with `v` under `key`, in ascending key order. -/
def Table.set {α : Type} : List (Nat × α) → Nat → α → List (Nat × α)
  | [], key, v => [(key, v)]
  | (k, w) :: rest, key, v =>
    if key < k then (key, v) :: (k, w) :: rest
    else if key = k then (key, v) :: rest
    else (k, w) :: Table.set rest key v

/-- The table with nothing under `key`. -/
def Table.erase {α : Type} : List (Nat × α) → Nat → List (Nat × α)
  | [], _ => []
  | (k, v) :: rest, key => if k = key then rest else (k, v) :: Table.erase rest key

/-- The canonical form of a table: its keys strictly rise. -/
def Table.wf {α : Type} : List (Nat × α) → Bool
  | [] => true
  | [_] => true
  | (a, _) :: (b, w) :: rest => decide (a < b) && Table.wf ((b, w) :: rest)

/-- A number put into an ascending list without repeats. -/
def insertAscending (n : Nat) : List Nat → List Nat
  | [] => [n]
  | a :: rest => if n < a then n :: a :: rest else if n = a then a :: rest else a :: insertAscending n rest

/-- A list of numbers in ascending order, duplicates kept (R72). -/
def sortAscending : List Nat → List Nat
  | [] => []
  | a :: rest => place a (sortAscending rest)
where
  place (a : Nat) : List Nat → List Nat
    | [] => [a]
    | b :: rest => if a ≤ b then a :: b :: rest else b :: place a rest

/-! ### Emitters and masks -/

/-- The emitters in ascending order. -/
def emitters : List Emitter := [.e0, .e1, .e2, .e3]

/-- The number of an emitter. -/
def emitterNumber : Emitter → Nat
  | .e0 => 0
  | .e1 => 1
  | .e2 => 2
  | .e3 => 3

/-- The emitter with a number from 0 to 3 (Section 7.8). -/
def emitterOfNumber : Nat → Option Emitter
  | 0 => some .e0
  | 1 => some .e1
  | 2 => some .e2
  | 3 => some .e3
  | _ => none

/-- What one emitter has. -/
def PerEmitter.get {α : Type} (p : PerEmitter α) : Emitter → α
  | .e0 => p.e0
  | .e1 => p.e1
  | .e2 => p.e2
  | .e3 => p.e3

/-- The same with another thing for one emitter. -/
def PerEmitter.set {α : Type} (p : PerEmitter α) (e : Emitter) (a : α) : PerEmitter α :=
  match e with
  | .e0 => { p with e0 := a }
  | .e1 => { p with e1 := a }
  | .e2 => { p with e2 := a }
  | .e3 => { p with e3 := a }

/-- One thing for each emitter, made from the emitter and what it had. -/
def PerEmitter.mapAll {α β : Type} (p : PerEmitter α) (f : Emitter → α → β) : PerEmitter β :=
  { e0 := f .e0 p.e0, e1 := f .e1 p.e1, e2 := f .e2 p.e2, e3 := f .e3 p.e3 }

/-- Whether a mask names an emitter, E0 in the least significant bit (Section 1.5). -/
def hasEmitter (m : Mask) (e : Emitter) : Bool := m.getLsbD (emitterNumber e)

/-- The emitters of a mask in ascending order. -/
def maskEmitters (m : Mask) : List Emitter := emitters.filter (hasEmitter m)

/-! ### Time (log entry 5) -/

/-- A duration of `n` µs in ticks of 25 ns. -/
def us (n : Nat) : Nat := 40 * n

/-- A duration of `n` ms in ticks. -/
def ms (n : Nat) : Nat := 40000 * n

/-- A duration of `n` s in ticks. -/
def sec (n : Nat) : Nat := 40000000 * n

/-- The time-base value at a moment (R41). -/
def stampOf (moment : Nat) : Stamp := BitVec.ofNat 32 (moment / 40)

/-- The time base now (R41). -/
def timeBase (s : State) : Stamp := stampOf s.now

/-- Whether stamp `a` lies before stamp `b`, by their difference modulo the wrap (R41). -/
def stampBefore (a b : Stamp) : Bool := (a - b).msb

/-- Time passes.  The time base runs from the end of the last reset (R41), so it stands still while RSTN is low or the
supply is absent. -/
def advance (dt : Nat) (s : State) : State :=
  if s.pins.powered && !s.pins.rstnLow then s.withNow (s.now + dt) else s

/-! ### Phase costs of the library (Table 3-2) and the wake time (R186) -/

/-- Programming and verifying one segment. -/
def programTime : Nat := ms 3
/-- One directory commit. -/
def commitTime : Nat := ms 2
/-- Erasing one segment. -/
def eraseTime : Nat := ms 2
/-- The directory scan of mount. -/
def scanTime : Nat := ms 5
/-- From a wake cause to the wake completion. -/
def wakeTime : Nat := ms 2

/-! ### Free values -/

/-- One more free value has been used. -/
def countDraw (s : State) : State := s.withDraws (s.draws + 1)

/-- A block replaced through a function of itself. -/
def updateChannel (s : State) (e : Emitter) (f : Channel → Channel) : State :=
  s.withChannels (s.channels.set e (f (s.channels.get e)))

end Sys2Proof.Machine
end

