-- ==== Sys2Proof/Machine/Flags.lean ====
section
/-! DEFINITION. The flags and conditions that other blocks read: slot flags (R13), the masking condition (R141), the activity of
a receiver input (R39), channel states (R103, R125), the readiness conditions of standby (R181), ATTN (R168). -/

namespace Sys2Proof.Machine

/-- The slot flags with none set, which an EMPTY slot reports (R13). -/
def SlotFlags.clear : SlotFlags := { recognize := false, notify := false, wake := false }

/-- The flag byte of R175: bit 0 RECOGNIZE, bit 1 NOTIFY, bit 2 WAKE. -/
def SlotFlags.toByte (f : SlotFlags) : Byte :=
  BitVec.ofNat 8 (f.recognize.toNat + 2 * f.notify.toNat + 4 * f.wake.toNat)

/-- The flags a flag byte names; a byte of 08h or above names none of the defined combinations (R175). -/
def SlotFlags.ofByte (b : Byte) : Option SlotFlags :=
  if b.toNat < 8 then
    some { recognize := b.getLsbD 0, notify := b.getLsbD 1, wake := b.getLsbD 2 }
  else none

/-- A mask window that is not closed (R141). -/
def MaskWindow.isPresent : MaskWindow → Bool
  | .closed => false
  | _ => true

/-- The masking condition: present while the mask window of any channel is open (R141). -/
def maskingPresent (s : State) : Bool := emitters.any fun e => (s.channels.get e).window.isPresent

/-- Whether the level of RXS or RXL is active under a context's working polarity (R39). -/
def activeLevel (input : Source) (invert level : Bool) : Bool :=
  match input with
  | .sense => level == invert
  | .learn => level != invert

/-- A context of the Capture Unit. -/
def Cap.context (c : Cap) : Source → Context
  | .sense => c.sense
  | .learn => c.learn

/-- The level of a context's pin. -/
def Cap.level (c : Cap) : Source → Bool
  | .sense => c.rxs
  | .learn => c.rxl

/-- Whether a context sees its input active. -/
def inputActive (s : State) (input : Source) : Bool :=
  activeLevel input (s.cap.context input).invert (s.cap.level input)

/-- A live job by its id (R100). -/
def findJob (s : State) (id : Nat) : Option Job := s.ems.jobs.find? fun j => j.id == id

/-- The reported states of a channel (R125). -/
inductive ChannelState where
  | off | idle | waiting | busy | fault
  deriving DecidableEq, Repr

/-- The state of a channel: OFF and FAULT are its own, the others follow the head of its queue (R103). -/
def channelState (s : State) (e : Emitter) : ChannelState :=
  match (s.channels.get e).mode with
  | .off => .off
  | .fault _ => .fault
  | .on =>
    match (s.ems.queues.get e).head? with
    | none => .idle
    | some id =>
      match findJob s id with
      | some j => if j.state = .queued then .waiting else .busy
      | none => .idle

/-- The Host Link is at rest: queue empty, no frame pending, state IDLE (R170). -/
def linkAtRest (s : State) : Bool :=
  s.link.queue.isEmpty && s.link.held.isNone && decide (s.link.state = .idle)

/-- The job table is empty (R99). -/
def noLiveJob (s : State) : Bool := s.ems.jobs.isEmpty

/-- The Learn Unit is IDLE (R61). -/
def noLearnSession (s : State) : Bool := s.lrn.session.isNone

/-- No library operation is in flight (R18). -/
def noLibraryOperation (s : State) : Bool := s.lib.op.isNone

/-- The press record is IDLE (R86). -/
def pressIdle (s : State) : Bool := s.rcg.press.isNone

/-- All five readiness conditions of Table 12-1 hold together. -/
def readyForStandby (s : State) : Bool :=
  linkAtRest s && noLiveJob s && noLearnSession s && noLibraryOperation s && pressIdle s

/-- ATTN is asserted while the outbound queue holds a message (R168). -/
def attnAsserted (s : State) : Bool := !s.link.queue.isEmpty

/-- The link is open in AWAKE and STANDBY_PENDING (R170). -/
def OpState.isOpen : OpState → Bool
  | .awake | .standbyPending => true
  | _ => false

end Sys2Proof.Machine
end

