-- ==== Sys2Proof/Machine/Operands.lean ====
section
/-! DEFINITION. The bytes of the host link (chapter Message Formats): fields, frames, kinds and codes, the wire form of a
code record, the payloads of notifications, and the fields of the requests that carry their own counts. -/

namespace Sys2Proof.Machine

/-! ### Fields (R173) -/

/-- The byte at an offset of a payload. -/
def byteAt (p : List Byte) (i : Nat) : Byte := p.getD i 0

/-- A two-byte field, least significant byte first (R173). -/
def wordAt (p : List Byte) (i : Nat) : Nat := (byteAt p i).toNat + 256 * (byteAt p (i + 1)).toNat

/-- A one-byte field with a value. -/
def byte (n : Nat) : Byte := BitVec.ofNat 8 n

/-- A two-byte field with a value, least significant byte first (R173). -/
def word (n : Nat) : List Byte := [byte n, byte (n / 256)]

/-- The sum of bytes modulo 256. -/
def byteSum : List Byte → Byte
  | [] => 0
  | b :: rest => b + byteSum rest

/-! ### Kinds, statuses and codes (Tables 11-2 to 11-4, 11-6) -/

/-- The code of a request kind (Table 11-2). -/
def ReqKind.code : ReqKind → Byte
  | .getStatus => 0x01
  | .configure => 0x02
  | .readConfig => 0x03
  | .standby => 0x04
  | .reset => 0x05
  | .learnStart => 0x10
  | .learnStop => 0x11
  | .readStaged => 0x12
  | .store => 0x20
  | .erase => 0x21
  | .setCodeFlags => 0x22
  | .readCode => 0x23
  | .listCodes => 0x24
  | .send => 0x30
  | .hold => 0x31
  | .sequence => 0x32
  | .release => 0x33
  | .cancel => 0x34
  | .flush => 0x35
  | .jobStatus => 0x36
  | .emitterControl => 0x37
  | .routeSet => 0x40
  | .routeClear => 0x41
  | .routeRead => 0x42

/-- Every request kind. -/
def ReqKind.list : List ReqKind :=
  [.getStatus, .configure, .readConfig, .standby, .reset, .learnStart, .learnStop, .readStaged, .store, .erase,
   .setCodeFlags, .readCode, .listCodes, .send, .hold, .sequence, .release, .cancel, .flush, .jobStatus,
   .emitterControl, .routeSet, .routeClear, .routeRead]

/-- The request kind with a code (R160, check 3). -/
def ReqKind.ofCode (b : Byte) : Option ReqKind := ReqKind.list.find? fun k => k.code == b

/-- The least and the greatest payload length of a kind (Table 11-2). -/
def ReqKind.lengths : ReqKind → Nat × Nat
  | .getStatus | .standby | .reset | .learnStop | .readStaged => (0, 0)
  | .configure => (3, 42)
  | .readConfig => (1, 14)
  | .learnStart => (4, 4)
  | .store => (8, 270)
  | .erase | .readCode | .release | .cancel | .flush | .jobStatus | .routeClear | .routeRead => (1, 1)
  | .setCodeFlags | .listCodes | .emitterControl => (2, 2)
  | .send | .hold => (3, 3)
  | .sequence => (4, 49)
  | .routeSet => (9, 9)

/-- The maximum reply size of a kind (Table 11-2); RESET is answered by no reply. -/
def ReqKind.maxReply : ReqKind → Nat
  | .reset => 0
  | .getStatus => 42
  | .configure | .send | .hold | .sequence | .flush => 7
  | .readConfig => 48
  | .readStaged | .readCode => 274
  | .store => 8
  | .listCodes => 297
  | .jobStatus => 19
  | .routeRead => 17
  | .standby | .learnStart | .learnStop | .erase | .setCodeFlags | .release | .cancel | .emitterControl | .routeSet
  | .routeClear => 6

/-- The code of a status (Table 11-4). -/
def Status.code : Status → Byte
  | .ok => 0x00
  | .accepted => 0x01
  | .badCheck => 0x02
  | .badLength => 0x03
  | .unknownKind => 0x04
  | .badArgument => 0x05
  | .badRecord => 0x06
  | .noCode => 0x07
  | .libBusy => 0x08
  | .noSpace => 0x09
  | .queueFull => 0x0A
  | .tableFull => 0x0B
  | .emitterOff => 0x0C
  | .emitterFault => 0x0D
  | .notFound => 0x0E
  | .tooLate => 0x0F
  | .wrongKind => 0x10
  | .wrongState => 0x11
  | .busy => 0x12
  | .learnActive => 0x13
  | .noStaged => 0x14

/-- The code of an outbound kind (Table 11-3). -/
def MsgKind.code : MsgKind → Byte
  | .reply => 0x80
  | .ready => 0x81
  | .learnResult => 0x82
  | .libDone => 0x83
  | .pressed => 0x84
  | .held => 0x85
  | .released => 0x86
  | .unknownFrame => 0x87
  | .jobEnd => 0x88
  | .emitterFault => 0x89
  | .wake => 0x8A
  | .routeDropped => 0x8B

/-- Operating state codes; the states in which the link is closed take no code (Table 11-6). -/
def OpState.code : OpState → Byte
  | .awake => 0x01
  | .standbyPending => 0x02
  | _ => 0x00

/-- Channel state codes (Table 11-6). -/
def ChannelState.code : ChannelState → Byte
  | .off => 0x00
  | .idle => 0x01
  | .waiting => 0x02
  | .busy => 0x03
  | .fault => 0x04

/-- Fault kind codes (Table 11-6). -/
def FaultKind.code : FaultKind → Byte
  | .opened => 0x01
  | .short => 0x02

/-- The fault kind reported for a channel: none unless the channel is in FAULT (R190). -/
def ChannelMode.faultCode : ChannelMode → Byte
  | .fault k => k.code
  | _ => 0x00

/-- Library operation kind codes (Table 11-6). -/
def LibKind.code : LibKind → Byte
  | .store => 0x01
  | .erase => 0x02
  | .setFlags => 0x03

/-- Job state codes (Table 11-6). -/
def JobState.code : JobState → Byte
  | .queued => 0x00
  | .active => 0x01
  | .ending _ => 0x02

/-- Job kind codes (Table 11-6). -/
def JobKind.code : JobKind → Byte
  | .send _ _ => 0x00
  | .hold _ _ => 0x01
  | .sequence _ => 0x02

/-- Outcome and end reason codes (Table 11-6). -/
def JobOutcome.code : JobOutcome → Byte
  | .done => 0x00
  | .released => 0x01
  | .holdLimit => 0x02
  | .cancelled => 0x03
  | .failedNoCode => 0x04
  | .failedFault => 0x05
  | .failedOff => 0x06

/-- Origin kind, then the request tag or the route index (Tables 11-11 and 11-12). -/
def Origin.bytes : Origin → List Byte
  | .host tag => [0x00, tag]
  | .route i => [0x01, byte i]

/-- Trigger codes (Table 11-6). -/
def Trigger.code : Trigger → Byte
  | .pressed => 0x00
  | .held => 0x01
  | .released => 0x02

/-- The trigger with a code. -/
def Trigger.ofCode (b : Byte) : Option Trigger :=
  if b = 0x00 then some .pressed else if b = 0x01 then some .held else if b = 0x02 then some .released else none

/-- Route action codes (Table 11-6). -/
def RouteAction.code : RouteAction → Byte
  | .send => 0x00
  | .mirror => 0x01

/-- The route action with a code. -/
def RouteAction.ofCode (b : Byte) : Option RouteAction :=
  if b = 0x00 then some .send else if b = 0x01 then some .mirror else none

/-- Reset cause codes (Table 11-6). -/
def ResetCause.code : ResetCause → Byte
  | .power => 0x00
  | .pin => 0x01
  | .request => 0x02

/-- An emitter mask field: bits 0 to 3, not all clear; any other bit set fails (R175). -/
def maskField (b : Byte) : Option Mask :=
  if 1 ≤ b.toNat ∧ b.toNat ≤ 15 then some (b.setWidth 4) else none

/-! ### Frames (R160, R173) -/

/-- The size of an outbound frame: 5 bytes of header and check plus the payload (R163). -/
def Message.size (m : Message) : Nat := 5 + m.payload.length

/-- A frame with its check byte, which makes the sum of all its bytes 0 modulo 256 (R173). -/
def frameBytes (kind tag : Byte) (payload : List Byte) : List Byte :=
  let front := kind :: tag :: (word payload.length ++ payload)
  front ++ [-(byteSum front)]

/-- The bytes of an outbound message. -/
def Message.bytes (m : Message) : List Byte := frameBytes m.kind.code m.tag m.payload

/-- The payload length check of a kind (R160, check 4). -/
def lengthFits (k : ReqKind) (payload : List Byte) : Bool :=
  decide (k.lengths.1 ≤ payload.length ∧ payload.length ≤ k.lengths.2)

/-- A frame of a known kind under check 4 (R160). -/
def checkLength (k : ReqKind) (tag : Byte) (payload : List Byte) : CheckedFrame :=
  if lengthFits k payload then .good k tag payload else .rejected tag .badLength

/-- The four frame checks of Table 10-3, in their order, on the bytes a write stored. -/
def checkFrame (bytes : List Byte) : CheckedFrame :=
  let tag := byteAt bytes 1
  if bytes.length ≠ 5 + wordAt bytes 2 then .rejected tag .badLength
  else if byteSum bytes ≠ 0 then .rejected tag .badCheck
  else
    match ReqKind.ofCode (byteAt bytes 0) with
    | none => .rejected tag .unknownKind
    | some k => checkLength k tag ((bytes.drop 4).take (wordAt bytes 2))

/-- The reply size of a checked frame (R161). -/
def CheckedFrame.replySize : CheckedFrame → Nat
  | .good k _ _ => k.maxReply
  | .rejected _ _ => 6

/-! ### The wire form of a code record (R6, R177) -/

/-- A pair byte: the mark class above, the space class or Fh for END below (R177). -/
def Pair.toByte (p : Pair) : Byte := byte (16 * p.mark + p.space.getD 15)

/-- The pair of a pair byte (R177). -/
def Pair.ofByte (b : Byte) : Pair :=
  { mark := b.toNat / 16, space := if b.toNat % 16 = 15 then none else some (b.toNat % 16) }

/-- The wire size of a record with the given counts (R6). -/
def wireSizeOf (classes body later label : Nat) : Nat := 10 + 2 * classes + label + body + later

/-- The wire size of a record (R6). -/
def Record.wireSize (r : Record) : Nat :=
  wireSizeOf r.classes.length r.body.length r.later.length r.label.length

/-- The stored size of a number of bytes, in segments of 32 (R6). -/
def storedSize (size : Nat) : Nat := (size + 31) / 32

/-- The wire form of Table 11-7. -/
def Record.wire (r : Record) : List Byte :=
  word r.carrier ++ [byte r.duty, byte r.classes.length, byte r.body.length, byte r.later.length,
    byte r.label.length] ++ word r.interval ++ [byte r.minFrames] ++ r.classes.flatMap word ++
    r.body.map Pair.toByte ++ r.later.map Pair.toByte ++ r.label

/-- The record of a wire form (Table 11-7), with its lengths as whole byte values (R174). -/
def Record.ofWire (w : List Byte) : Record :=
  let c := (byteAt w 3).toNat
  let b := (byteAt w 4).toNat
  let p := (byteAt w 5).toNat
  let l := (byteAt w 6).toNat
  let rest := w.drop (10 + 2 * c)
  { carrier := wordAt w 0, duty := (byteAt w 2).toNat,
    classes := (List.range c).map fun i => wordAt w (10 + 2 * i),
    body := (rest.take b).map Pair.ofByte,
    later := ((rest.drop b).take p).map Pair.ofByte,
    interval := wordAt w 7, minFrames := (byteAt w 9).toNat,
    label := ((rest.drop (b + p)).take l) }

/-! ### Notifications (Table 11-12) -/

/-- The results of a learn session (Tables 5-3 and 11-6). -/
inductive LearnOutcome where
  | ok | noSignal | stopped | tooLong | longMark | carrierOutOfRange | tooManyClasses | inconsistent
  deriving DecidableEq, Repr

/-- Learn result codes (Table 11-6). -/
def LearnOutcome.code : LearnOutcome → Byte
  | .ok => 0x00
  | .noSignal => 0x01
  | .stopped => 0x02
  | .tooLong => 0x03
  | .longMark => 0x04
  | .carrierOutOfRange => 0x05
  | .tooManyClasses => 0x06
  | .inconsistent => 0x07

/-- The reasons a press ends (R92). -/
inductive ReleaseReason where
  | timeout | otherCode | withdrawn
  deriving DecidableEq, Repr

/-- Release reason codes (Table 11-6). -/
def ReleaseReason.code : ReleaseReason → Byte
  | .timeout => 0x00
  | .otherCode => 0x01
  | .withdrawn => 0x02

/-- What a notification reports, before its admission gives it a missed count and a sequence number. -/
inductive Notification where
  | ready (cause : ResetCause) (repaired reclaimed : Nat)
  | learnResult (tag : Byte) (result : LearnOutcome) (carrier classes body later frames : Nat)
  | libDone (tag : Byte) (kind : LibKind) (slot : Nat) (fault : Bool)
  | pressed (slot : Nat)
  | held (slot count : Nat)
  | released (slot count : Nat) (reason : ReleaseReason)
  | unknownFrame (durations : List Nat)
  | jobEnd (id : Nat) (outcome : JobOutcome) (framesSent : Nat) (origin : Origin)
  | emitterFault (emitter : Emitter) (kind : FaultKind)
  | wake (cause : WakeCause)
  | routeDropped (index : Nat) (status : Status)
  deriving DecidableEq, Repr

/-- The outbound kind of a notification (Table 11-3). -/
def Notification.kind : Notification → MsgKind
  | .ready .. => .ready
  | .learnResult .. => .learnResult
  | .libDone .. => .libDone
  | .pressed .. => .pressed
  | .held .. => .held
  | .released .. => .released
  | .unknownFrame .. => .unknownFrame
  | .jobEnd .. => .jobEnd
  | .emitterFault .. => .emitterFault
  | .wake .. => .wake
  | .routeDropped .. => .routeDropped

/-- The number of marks of a frame with the given durations (R47). -/
def markCount (durations : List Nat) : Nat := (durations.length + 1) / 2

/-- The payload of a notification after its missed count (Table 11-12). -/
def Notification.fields : Notification → List Byte
  | .ready c p q => [c.code, byte p] ++ word q
  | .learnResult t r c n b p k => [t, r.code] ++ word c ++ [byte n, byte b, byte p, byte k]
  | .libDone t k slot f => [t, k.code, byte slot, if f then 0x01 else 0x00]
  | .pressed slot => [byte slot]
  | .held slot n => [byte slot] ++ word n
  | .released slot n r => [byte slot] ++ word n ++ [r.code]
  | .unknownFrame d => [byte (markCount d), byte (min 16 d.length)] ++ (d.take 16).flatMap word
  | .jobEnd id o n g => [byte id, o.code] ++ word n ++ g.bytes
  | .emitterFault e k => [byte (emitterNumber e), k.code]
  | .wake .link => [0x00, 0xFF]
  | .wake (.code slot) => [0x01, byte slot]
  | .routeDropped i st => [byte i, st.code]

/-! ### Parameters (Table 12-4) -/

/-- The current value of a parameter by its id. -/
def Params.value (p : Params) (id : Nat) : Option Nat :=
  match id with
  | 0x01 => some p.frameGap
  | 0x02 => some p.glitchLimit
  | 0x03 => some p.matchTolerance
  | 0x04 => some p.releaseTimeout
  | 0x05 => some p.holdReportEvery
  | 0x06 => some p.reportUnknown
  | 0x07 => some p.learnWindow
  | 0x08 => some p.learnEndGap
  | 0x09 => some p.holdLimit
  | 0x0A => some p.minFrameGap
  | 0x0B => some p.senseEnable
  | 0x0C => some p.senseInvert
  | 0x0D => some p.learnInvert
  | 0x0E => some p.maskTail
  | _ => none

/-- The range of a parameter by its id. -/
def paramRange (id : Nat) : Option (Nat × Nat) :=
  match id with
  | 0x01 => some (3, 100)
  | 0x02 => some (0, 250)
  | 0x03 => some (5, 35)
  | 0x04 => some (20, 1000)
  | 0x05 => some (0, 15)
  | 0x06 => some (0, 1)
  | 0x07 => some (1, 60)
  | 0x08 => some (50, 1000)
  | 0x09 => some (1, 120)
  | 0x0A => some (2, 100)
  | 0x0B => some (0, 1)
  | 0x0C => some (0, 1)
  | 0x0D => some (0, 1)
  | 0x0E => some (0, 50)
  | _ => none

/-- Whether an id names a parameter and the value lies in its range (R188). -/
def paramOk (id value : Nat) : Bool :=
  match paramRange id with
  | some (lo, hi) => decide (lo ≤ value ∧ value ≤ hi)
  | none => false

/-- The parameter set with another value for one id. -/
def Params.update (p : Params) (id value : Nat) : Params :=
  match id with
  | 0x01 => { p with frameGap := value }
  | 0x02 => { p with glitchLimit := value }
  | 0x03 => { p with matchTolerance := value }
  | 0x04 => { p with releaseTimeout := value }
  | 0x05 => { p with holdReportEvery := value }
  | 0x06 => { p with reportUnknown := value }
  | 0x07 => { p with learnWindow := value }
  | 0x08 => { p with learnEndGap := value }
  | 0x09 => { p with holdLimit := value }
  | 0x0A => { p with minFrameGap := value }
  | 0x0B => { p with senseEnable := value }
  | 0x0C => { p with senseInvert := value }
  | 0x0D => { p with learnInvert := value }
  | 0x0E => { p with maskTail := value }
  | _ => p

/-- The pairs of a CONFIGURE payload: an id and a two-byte value, three bytes each (Table 11-8). -/
def configPairs : List Byte → List (Nat × Nat)
  | a :: b :: c :: rest => (a.toNat, b.toNat + 256 * c.toNat) :: configPairs rest
  | _ => []

/-! ### SEQUENCE steps (Table 11-8) -/

/-- The steps of a SEQUENCE payload after its mask, none where a step fails its checks (Table 7-3, row 1, R175). -/
def sequenceSteps : List Byte → Option (List Step)
  | [] => some []
  | t :: a :: b :: rest =>
    let first : Option Step :=
      if t = 0x00 then
        if a.toNat ≤ 127 ∧ 1 ≤ b.toNat then some (.send a.toNat b.toNat) else none
      else if t = 0x01 then
        if 1 ≤ a.toNat + 256 * b.toNat ∧ a.toNat + 256 * b.toNat ≤ 60000 then
          some (.pause (a.toNat + 256 * b.toNat))
        else none
      else none
    match first, sequenceSteps rest with
    | some st, some more => some (st :: more)
    | _, _ => none
  | _ => none

/-! ### Agreement of a payload's counts with its length (R174) -/

/-- The agreement test of Table 11-5. -/
def payloadAgrees (k : ReqKind) (p : List Byte) : Bool :=
  match k with
  | .configure => p.length % 3 == 0
  | .sequence => p.length % 3 == 1
  | .store =>
    if byteAt p 2 = 0x00 then
      decide (14 ≤ p.length) &&
        p.length == 4 + wireSizeOf (byteAt p 7).toNat (byteAt p 8).toNat (byteAt p 9).toNat (byteAt p 10).toNat
    else if byteAt p 2 = 0x01 then p.length == 8 + (byteAt p 7).toNat
    else true
  | _ => true

end Sys2Proof.Machine
end

