-- ==== Sys2Proof/Machine/CodeRecord.lean ====
section
/-! DEFINITION. The code record: its checks (R4, R5), the durations of a frame (R2, R7), the frame series (R3), carrier
pulses (R8), and matching (R83). -/

namespace Sys2Proof.Machine

/-! ### Record checks (Table 2-2) -/

/-- A carrier in range: 0, or 200 to 600, or 3500 to 5000 (Table 2-1; R54; R62). -/
def carrierOk (c : Nat) : Bool := decide (c = 0 ∨ (200 ≤ c ∧ c ≤ 600) ∨ (3500 ≤ c ∧ c ≤ 5000))

/-- The position of the first pair that fails field 7 or 8, counted from `i` (Table 2-2, R177). -/
def firstBadPair (classes : Nat) : Nat → List Pair → Option Nat
  | _, [] => none
  | i, p :: rest =>
    let spaceOk : Bool :=
      match p.space with
      | some c => decide (c < classes) && !rest.isEmpty
      | none => rest.isEmpty
    if decide (p.mark < classes) && spaceOk then firstBadPair classes (i + 1) rest else some i

/-- The first failing check of Table 2-2, as its field number and item; none when the record is valid (R4). -/
def recordFault (r : Record) : Option (Nat × Nat) :=
  if !carrierOk r.carrier then some (1, 0)
  else if !(r.duty == 25 || r.duty == 33 || r.duty == 50) then some (2, 0)
  else if !decide (1 ≤ r.classes.length ∧ r.classes.length ≤ 8) then some (3, 0)
  else
    match r.classes.findIdx? fun d => !decide (10 ≤ d ∧ d ≤ 65000) with
    | some i => some (4, i)
    | none =>
      if !decide (1 ≤ r.body.length ∧ r.body.length ≤ 192) then some (5, 0)
      else if !decide (r.later.length ≤ 32) then some (6, 0)
      else
        match firstBadPair r.classes.length 0 r.body with
        | some i => some (7, i)
        | none =>
          match firstBadPair r.classes.length 0 r.later with
          | some i => some (8, i)
          | none =>
            if !decide (r.interval ≤ 1000) then some (9, 0)
            else if !decide (1 ≤ r.minFrames ∧ r.minFrames ≤ 15) then some (10, 0)
            else if !decide (r.label.length ≤ 16) then some (11, 0)
            else
              match r.label.findIdx? fun b => !decide (0x20 ≤ b.toNat ∧ b.toNat ≤ 0x7E) with
              | some i => some (12, i)
              | none => none

/-! ### Frames of a record -/

/-- The classes a pair list names in order: mark, space, mark, … , the last pair's END naming none (R2). -/
def elementClasses : List Pair → List Nat
  | [] => []
  | p :: rest =>
    match p.space with
    | some c => p.mark :: c :: elementClasses rest
    | none => p.mark :: elementClasses rest

/-- The durations of a pair list in µs, from a class table (R7). -/
def elementDurations (classes : List Nat) (pairs : List Pair) : List Nat :=
  (elementClasses pairs).map fun c => classes.getD c 0

/-- The pair list of frame `n`: the body first, then the repeat part or, without one, the body (R3). -/
def Record.frameList (r : Record) (n : Nat) : List Pair :=
  if n ≤ 1 ∨ r.later = [] then r.body else r.later

/-- The durations of frame `n` (R3, R7). -/
def Record.frameDurations (r : Record) (n : Nat) : List Nat := elementDurations r.classes (r.frameList n)

/-! ### Carrier pulses (R8) -/

/-- The whole number nearest to duration times carrier over 10,000, halves up, before it is raised to 1 (R8). -/
def nearestPulses (duration carrier : Nat) : Nat := (duration * carrier + 5000) / 10000

/-- The pulse count N of a mark (R8). -/
def pulseCount (duration carrier : Nat) : Nat := max 1 (nearestPulses duration carrier)

/-- `a / b` rounded up. -/
def ceilDiv (a b : Nat) : Nat := (a + b - 1) / b

/-- The ticks from the mark start to the end of its drive, the last pulse's end, rounded up to a whole tick: steady drive
lasts the mark; otherwise N − 1 periods of 10,000/carrier µs and the duty share of one (R8). -/
def driveLength (duration carrier duty : Nat) : Nat :=
  if carrier = 0 then us duration
  else ceilDiv (((pulseCount duration carrier - 1) * 100 + duty) * 4000) carrier

/-! ### Matching (R83) -/

/-- A duration lies within the tolerance of a class value (R83). -/
def withinTolerance (tolerance d v : Nat) : Bool := decide (100 * ((d - v) + (v - d)) ≤ tolerance * v)

/-- Every duration of a frame lies within the tolerance of the value it stands against. -/
def allWithin (tolerance : Nat) : List Nat → List Nat → Bool
  | [], [] => true
  | d :: ds, v :: vs => withinTolerance tolerance d v && allWithin tolerance ds vs
  | _, _ => false

/-- A frame matches a pair list taken with its class table (R83). -/
def matchesList (tolerance : Nat) (classes : List Nat) (pairs : List Pair) (durations : List Nat) : Bool :=
  !pairs.isEmpty && allWithin tolerance durations (elementDurations classes pairs)

end Sys2Proof.Machine
end

