-- ==== Sys2Proof/Machine/Outbound.lean ====
section
/-! DEFINITION. The outbound queue (R163): its free space, the admission of notifications (R164) and the appending of
replies (R161). -/

namespace Sys2Proof.Machine

/-- The most messages the queue holds (R163). -/
def maxMessages : Nat := 32
/-- The most bytes the queue and a reservation hold together (R162, R163). -/
def maxBytes : Nat := 2048

/-- The bytes of the messages queued. -/
def queueBytes : List Message → Nat
  | [] => 0
  | m :: rest => m.size + queueBytes rest

/-- The bytes a reservation holds. -/
def Link.reservedBytes (l : Link) : Nat :=
  match l.held with
  | some h => h.bytes
  | none => 0

/-- The places a reservation holds. -/
def Link.reservedPlaces (l : Link) : Nat :=
  match l.held with
  | some h => if h.place then 1 else 0
  | none => 0

/-- The free bytes of the queue (R163). -/
def Link.freeBytes (l : Link) : Nat := maxBytes - queueBytes l.queue - l.reservedBytes

/-- The free places of the queue (R163). -/
def Link.freePlaces (l : Link) : Nat := maxMessages - l.queue.length - l.reservedPlaces

/-- A message put at the tail of the queue. -/
def Link.append (l : Link) (m : Message) : Link := { l with queue := l.queue ++ [m] }

/-- The message a notification becomes at its admission: the sequence number as its tag, the missed count as its first
payload byte (R164, R179). -/
def Link.notification (l : Link) (n : Notification) : Message :=
  { kind := n.kind, tag := l.seq, payload := byte l.missed :: n.fields }

/-- A notification is admitted when its full frame fits the free bytes and a free place is left (R164). -/
def Link.admits (l : Link) (n : Notification) : Bool :=
  decide ((l.notification n).size ≤ l.freeBytes ∧ 1 ≤ l.freePlaces)

/-- A notification handed over: admitted at the tail, the missed count returning to 0 and the sequence number rising; or
dropped, the missed count rising up to 255 (R164). -/
def Link.notify (l : Link) (n : Notification) : Link :=
  if l.admits n then { l.append (l.notification n) with missed := 0, seq := l.seq + 1 }
  else { l with missed := min 255 (l.missed + 1) }

/-- A block hands a notification to the Host Link. -/
def notify (n : Notification) (s : State) : State := s.withLink (s.link.notify n)

/-- A block hands a notification over where a condition holds. -/
def notifyIf (c : Bool) (n : Notification) (s : State) : State := if c then notify n s else s

/-- The reply message of a request (R178). -/
def replyMessage (tag : Byte) (status : Status) (more : List Byte) : Message :=
  { kind := .reply, tag := tag, payload := status.code :: more }

/-- The reply of a taken request joins the tail of the queue; it is never dropped (R161). -/
def reply (tag : Byte) (status : Status) (more : List Byte) (s : State) : State :=
  s.withLink (s.link.append (replyMessage tag status more))

/-- A reply that is its status alone (R178). -/
def replyStatus (tag : Byte) (status : Status) (s : State) : State := reply tag status [] s

end Sys2Proof.Machine
end

