-- ==== Sys2Proof/Machine/Contexts.lean ====
section
/-! DEFINITION. A capture context on its own: entering its states (R42, R50, R55, R57, R58), what an edge does to it
(R43 to R45, R51), the moments its timed events fall due, and the carrier measurement (R53, R54). -/

namespace Sys2Proof.Machine

/-! ### A context of the state -/

/-- The Capture Unit with another context. -/
def Cap.withContext (c : Cap) (input : Source) (x : Context) : Cap :=
  match input with
  | .sense => { c with sense := x }
  | .learn => { c with learn := x }

/-- The Capture Unit with another level on a context's pin. -/
def Cap.withLevel (c : Cap) (input : Source) (x : Bool) : Cap :=
  match input with
  | .sense => { c with rxs := x }
  | .learn => { c with rxl := x }

/-- The context of an input. -/
def ctxOf (s : State) (input : Source) : Context := s.cap.context input

/-- The state with another context. -/
def setCtx (s : State) (input : Source) (x : Context) : State := s.withCap (s.cap.withContext input x)

/-- The polarity parameter of an input (R39). -/
def Params.invertOf (p : Params) : Source → Bool
  | .sense => p.senseInvert == 1
  | .learn => p.learnInvert == 1

/-! ### Entering a state -/

/-- The buffer emptied, the timers stopped, the pulse grouping cleared, any candidate dropped (R40). -/
def Context.cleared (c : Context) : Context :=
  { c with buffer := [], armed := false, quietFrom := none, mark := none, entered := false, gapFrom := none,
           group := none, groups := [] }

/-- The working values copied from the parameters (R42). -/
def Context.load (c : Context) (input : Source) (p : Params) : Context :=
  { c with frameGap := p.frameGap, glitchLimit := p.glitchLimit, invert := p.invertOf input }

/-- Entry to IDLE (R42): working values copied, and ready at once when the input, read with them, is inactive. -/
def Context.enterIdle (c : Context) (input : Source) (p : Params) (level : Bool) : Context :=
  { (c.cleared.load input p) with state := .idle, armed := !activeLevel input (p.invertOf input) level }

/-- Entry to SETTLING with the wait beginning now if the input is inactive (R50). -/
def Context.enterSettling (c : Context) (input : Source) (level : Bool) (now : Nat) : Context :=
  { c.cleared with
    state := .settling, gapFrom := if activeLevel input c.invert level then none else some now }

/-- Entry to MASKED, the working values kept (R55). -/
def Context.enterMasked (c : Context) : Context := { c.cleared with state := .masked }

/-- Entry to OFF (R57, R58). -/
def Context.enterOff (c : Context) : Context := { c.cleared with state := .off, measure := false }

/-- A context enters IDLE. -/
def ctxIdle (input : Source) (s : State) : State :=
  setCtx s input ((ctxOf s input).enterIdle input s.opc.params (s.cap.level input))

/-- A context enters SETTLING. -/
def ctxSettling (input : Source) (s : State) : State :=
  setCtx s input ((ctxOf s input).enterSettling input (s.cap.level input) s.now)

/-- A context enters OFF. -/
def ctxOff (input : Source) (s : State) : State := setCtx s input (ctxOf s input).enterOff

/-- A context that is not OFF enters MASKED (R55). -/
def ctxMasked (input : Source) (s : State) : State :=
  if (ctxOf s input).state = .off then s else setCtx s input (ctxOf s input).enterMasked

/-- A MASKED context enters SETTLING (R56). -/
def ctxUnmasked (input : Source) (s : State) : State :=
  if (ctxOf s input).state = .masked then ctxSettling input s else s

/-- The LEARN context leaves OFF for a session: IDLE, or MASKED under the masking condition, with its measure flag set
(R58, R52). -/
def learnContextStarts (s : State) : State :=
  let c := (ctxOf s .learn).enterIdle .learn s.opc.params s.cap.rxl
  let c := if maskingPresent s then c.enterMasked else c
  setCtx s .learn { c with measure := true }

/-- The SENSE context leaves OFF when it is enabled: SETTLING, or MASKED under the masking condition (R57). -/
def senseContextEnabled (s : State) : State :=
  let c := (ctxOf s .sense).load .sense s.opc.params
  setCtx s .sense (if maskingPresent s then c.enterMasked else c.enterSettling .sense s.cap.rxs s.now)

/-- The SENSE context leaves OFF at the end of mount: IDLE, or MASKED under the masking condition (R60). -/
def senseContextMounted (s : State) : State :=
  let c := (ctxOf s .sense).enterIdle .sense s.opc.params s.cap.rxs
  setCtx s .sense (if maskingPresent s then c.enterMasked else c)

/-! ### Durations (R39, R46) -/

/-- The moment an edge is stamped with: whole µs on RXS, 25 ns on RXL (R39; log entry 8). -/
def edgeMoment (input : Source) (now : Nat) : Nat :=
  match input with
  | .sense => us (now / 40)
  | .learn => now

/-- A delivered duration: the nearest whole µs, halves up, within the 1 to 64,999 of R46 (log entry 8). -/
def durationOf (ticks : Nat) : Nat := min 64999 (max 1 ((ticks + 20) / 40))

/-- A delivered space: below the working FRAME_GAP as well, as every duration inside a frame but a mark is (R46; log
entry 8). -/
def spaceOf (frameGap ticks : Nat) : Nat := max 1 (min (1000 * frameGap - 1) (durationOf ticks))

/-- The bound on a mark, and with FRAME_GAP on a space (R46, R49). -/
def markBound : Nat := us 65000

/-- The separation that ends a pulse group (R51). -/
def pulseSeparation : Nat := us 100

/-! ### Edges -/

/-- The pulse group of a first pulse (R51). -/
def PulseGroup.first_ (at_ : Nat) : PulseGroup := { count := 1, first := at_, last := at_, lastEnd := at_, widths := 0 }

/-- A further pulse of the open group; on RXS there is no group (R51). -/
def Context.pulse (c : Context) (input : Source) (at_ : Nat) : Context :=
  match input, c.group with
  | .learn, some g => { c with group := some { g with count := g.count + 1, last := at_ } }
  | .learn, none => { c with group := some (PulseGroup.first_ at_) }
  | .sense, _ => c

/-- An edge from inactive to active (R42 to R45, R50, R51). -/
def Context.rise (c : Context) (input : Source) (at_ : Nat) : Context :=
  match c.state with
  | .off | .masked => c
  | .settling => { c with gapFrom := none }
  | .idle =>
    if c.armed then
      match c.mark with
      | some _ => c.pulse input at_
      | none => { c with mark := some at_, entered := false }.pulse input at_
    else { c with quietFrom := none }
  | .inFrame =>
    match c.mark with
    | some _ => c.pulse input at_
    | none =>
      match c.gapFrom with
      | some e =>
        if at_ < e + us c.glitchLimit then
          { c with mark := some c.lastStart, entered := true, gapFrom := none, buffer := c.buffer.dropLast }.pulse
            input at_
        else { c with mark := some at_, entered := false }.pulse input at_
      | none => c

/-- The mark in progress ends at `at_`: a mark of the frame is entered and the space after it begins; a candidate is
removed and leaves no trace (R43, R44). -/
def Context.markEnded (c : Context) (at_ : Nat) : Context :=
  match c.mark with
  | none => c
  | some m =>
    if c.entered then
      { c with buffer := c.buffer ++ [durationOf (at_ - m)], mark := none, entered := false, lastStart := m,
               gapFrom := some at_, groups := c.groups ++ c.group.toList, group := none }
    else { c with mark := none, group := none }

/-- An edge from active to inactive: on RXS the mark ends; on RXL a pulse of the open group ends (R42, R44, R50, R51). -/
def Context.fall (c : Context) (input : Source) (at_ : Nat) : Context :=
  match c.state with
  | .off | .masked => c
  | .settling => { c with gapFrom := some at_ }
  | .idle | .inFrame =>
    if c.state = .idle ∧ c.armed = false then
      match input with
      | .sense => { c with armed := true }
      | .learn => { c with quietFrom := some at_ }
    else
      match input with
      | .sense => c.markEnded at_
      | .learn =>
        match c.group with
        | some g => { c with group := some { g with lastEnd := at_, widths := g.widths + (at_ - g.last) } }
        | none => c

/-- 100 µs without a pulse: the envelope mark ends at its last pulse's end (R51), or the wait of R42 is over. -/
def Context.envelopeEnded (c : Context) : Context :=
  if c.state = .idle ∧ c.armed = false then { c with armed := true, quietFrom := none }
  else
    match c.group with
    | some g => c.markEnded g.lastEnd
    | none => c

/-- The number of marks entered into the buffer. -/
def Context.marksEntered (c : Context) : Nat := (c.buffer.length + 1) / 2

/-- The candidate becomes a mark: the first of a frame, or the next with the space before it entered (R43, R44, R46). -/
def Context.candidateEntered (c : Context) : Context :=
  match c.state, c.mark with
  | .idle, some m => { c with state := .inFrame, entered := true, frameStart := m, buffer := [], groups := [] }
  | .inFrame, some m =>
    { c with entered := true, buffer := c.buffer ++ [spaceOf c.frameGap (m - c.gapFrom.getD m)], gapFrom := none }
  | _, _ => c

/-! ### When timed events fall due -/

/-- The moment the mark or candidate in progress reaches a duration `d`: while the input is active, `d` after its start or,
on RXL, at the start of the pulse in progress if that is later (R43, R49, R51). -/
def Context.reaches (c : Context) (input : Source) (active : Bool) (d : Nat) : Option Nat :=
  match c.mark with
  | none => none
  | some m =>
    if active then
      match input, c.group with
      | .learn, some g => some (max (m + d) g.last)
      | _, _ => some (m + d)
    else none

/-- The moment the candidate in progress reaches GLITCH_LIMIT (R43, R44). -/
def Context.candidateDue (c : Context) (input : Source) (active : Bool) : Option Nat :=
  if (c.state = .idle ∨ c.state = .inFrame) ∧ c.entered = false then c.reaches input active (us c.glitchLimit) else none

/-- The moment the mark in progress becomes too long (R49). -/
def Context.longDue (c : Context) (input : Source) (active : Bool) : Option Nat :=
  if c.state = .inFrame ∧ c.entered = true then c.reaches input active markBound else none

/-- The moment the frame ends (R46). -/
def Context.gapDue (c : Context) : Option Nat :=
  if c.state = .inFrame ∧ c.entered = false then c.gapFrom.map (· + min (ms c.frameGap) markBound) else none

/-- The moment the wait of SETTLING ends (R50). -/
def Context.settleDue (c : Context) (active : Bool) : Option Nat :=
  if c.state = .settling ∧ active = false then c.gapFrom.map (· + ms c.frameGap) else none

/-- The moment the end of an envelope mark is known, or the wait of R42 is over (R51). -/
def Context.envelopeDue (c : Context) (active : Bool) : Option Nat :=
  if active then none
  else if c.state = .idle ∧ c.armed = false then c.quietFrom.map (· + pulseSeparation)
  else if c.state = .idle ∨ c.state = .inFrame then c.group.map (·.lastEnd + pulseSeparation)
  else none

/-- The candidate reaches GLITCH_LIMIT by now, and not after the end of the frame in whose gap it began (R44, R46). -/
def Context.candidateReached (c : Context) (input : Source) (active : Bool) (now : Nat) : Bool :=
  match c.candidateDue input active with
  | none => false
  | some due =>
    decide (due ≤ now) &&
      match c.gapDue with
      | none => true
      | some g => decide (due ≤ g) && decide (c.mark.getD 0 < g)

/-- The frame ends by now, and not after a candidate of its gap has become a mark (R44, R46). -/
def Context.gapReached (c : Context) (input : Source) (active : Bool) (now : Nat) : Bool :=
  match c.gapDue with
  | none => false
  | some g =>
    decide (g ≤ now) &&
      match c.candidateDue input active with
      | none => true
      | some due => decide (g ≤ due)

/-- A moment that has been reached. -/
def dueBy (due : Option Nat) (now : Nat) : Bool :=
  match due with
  | some d => decide (d ≤ now)
  | none => false

/-- A moment that lies before now. -/
def dueBefore (due : Option Nat) (now : Nat) : Bool :=
  match due with
  | some d => decide (d < now)
  | none => false

/-! ### Carrier measurement (R53, R54) -/

/-- The contributing groups: those of 2 pulses or more (R52). -/
def contributing (groups : List PulseGroup) : List PulseGroup := groups.filter fun g => decide (2 ≤ g.count)

/-- The sum of the groups' periods, each weighted by its pulse count, as a fraction of ticks (R53). -/
def weightedPeriods : List PulseGroup → Nat × Nat
  | [] => (0, 1)
  | g :: rest =>
    let (n, d) := weightedPeriods rest
    (n * (g.count - 1) + g.count * (g.last - g.first) * d, d * (g.count - 1))

/-- The sum of the groups' pulse counts. -/
def pulseTotal (groups : List PulseGroup) : Nat := (groups.map (·.count)).sum

/-- The sum of the groups' pulse widths in ticks. -/
def widthTotal (groups : List PulseGroup) : Nat := (groups.map (·.widths)).sum

/-- The measured carrier and duty of a frame's groups (R53).  With the mean period T in ticks of 25 ns, the frequency in
units of 100 Hz is 400,000 / T, rounded half up. -/
def measureGroups (all : List PulseGroup) : Measurement :=
  let gs := contributing all
  if gs = [] then { carrier := 0, duty := 33 }
  else
    let (n, d) := weightedPeriods gs
    let w := pulseTotal gs
    let width := widthTotal gs
    if n = 0 then
      { carrier := Config.carrierOfZeroPeriod width w,
        duty := [25, 33, 50].getD (Config.dutyOfZeroPeriod width w).val 33 }
    else
      { carrier := (2 * 400000 * d * w + n) / (2 * n),
        duty := if 100 * width * d < 29 * n then 25 else if 1000 * width * d < 415 * n then 33 else 50 }

end Sys2Proof.Machine
end

