-- ==== Sys2Proof/Machine/Learn.lean ====
section
/-! DEFINITION. The Learn Unit: reduction (R72 to R75), the end of a session (R70, R71), the deliveries a session takes
(R66, R67), its timers (R65, R68), and the discard that ends a session with its closing mark set (R68). -/

namespace Sys2Proof.Machine

/-! ### Reduction -/

/-- A duration class being built: the value that opened it, the sum and the number of its members (R72). -/
structure ValueClass where
  opener : Nat
  total : Nat
  count : Nat
  deriving DecidableEq, Repr

/-- The classes of an ascending list of values, after the class being built (R72). -/
def classesFrom (cur : ValueClass) : List Nat → List ValueClass
  | [] => [cur]
  | v :: rest =>
    if 100 * v ≤ 115 * cur.opener then classesFrom { cur with total := cur.total + v, count := cur.count + 1 } rest
    else cur :: classesFrom { opener := v, total := v, count := 1 } rest

/-- The classes of an ascending list of values (R72). -/
def classesOf : List Nat → List ValueClass
  | [] => []
  | v :: rest => classesFrom { opener := v, total := v, count := 1 } rest

/-- The value of a class: the mean of its members, halves up, raised to 10 (R72). -/
def ValueClass.value (c : ValueClass) : Nat := max 10 ((2 * c.total + c.count) / (2 * c.count))

/-- Classes of value 10 after the first are merged into it; each remaining class keeps its opener and value (R72). -/
def mergeTens : Bool → List ValueClass → List (Nat × Nat)
  | _, [] => []
  | seen, c :: rest =>
    if c.value = 10 ∧ seen = true then mergeTens true rest
    else (c.opener, c.value) :: mergeTens (c.value == 10) rest

/-- The openers and values of the duration classes of a frame set (R72). -/
def durationClasses (frames : List Frame) : List (Nat × Nat) :=
  mergeTens false (classesOf (sortAscending (frames.flatMap (·.durations))))

/-- The number of the class a value joined: the last whose opener is not above it (R72, R73). -/
def classNumber (table : List (Nat × Nat)) (v : Nat) : Nat := (table.countP fun c => decide (c.1 ≤ v)) - 1

/-- The pair list of a frame's class numbers, END after its last mark (R73). -/
def pairsOf : List Nat → List Pair
  | [] => []
  | [m] => [{ mark := m, space := none }]
  | m :: sp :: rest => { mark := m, space := some sp } :: pairsOf rest

/-- A frame of the set as a pair list (R73). -/
def framePairs (table : List (Nat × Nat)) (f : Frame) : List Pair := pairsOf (f.durations.map (classNumber table))

/-- Body and repeat part from the pair lists of F1 to Fk, or the failure (R74). -/
def bodyAndRepeat : List (List Pair) → Except LearnOutcome (List Pair × List Pair)
  | [] => .error .inconsistent
  | [f1] => .ok (f1, [])
  | f1 :: f2 :: rest =>
    if f2 = f1 then (if rest.all (fun f => f == f1) then .ok (f1, []) else .error .inconsistent)
    else if rest.all (fun f => f == f2) then
      (if 32 < f2.length then .error .tooLong else .ok (f1, f2))
    else .error .inconsistent

/-- The repeat interval in ms: F2's start less F1's, halves up, at most 1000, and 0 for one frame (R75). -/
def repeatInterval : List Frame → Nat
  | f1 :: f2 :: _ => min 1000 (((f2.start - f1.start).toNat + 500) / 1000)
  | _ => 0

/-- The carrier and duty a session gives its record (R75). -/
def Session.carrierDuty (x : Session) : Measurement :=
  match x.source with
  | .learn => x.measurement.getD { carrier := 0, duty := 33 }
  | .sense => { carrier := x.hint, duty := 33 }

/-- Reduction of a session's frame set to a record, or the reason of its failure (R72 to R75). -/
def Session.reduce (x : Session) : Except LearnOutcome Record :=
  let table := durationClasses x.frames
  if 8 < table.length then .error .tooManyClasses
  else
    match bodyAndRepeat (x.frames.map (framePairs table)) with
    | .error e => .error e
    | .ok (body, later) =>
      .ok { carrier := x.carrierDuty.carrier, duty := x.carrierDuty.duty, classes := table.map (·.2), body := body,
            later := later, interval := repeatInterval x.frames, minFrames := 1, label := [] }

/-! ### The end of a session -/

/-- What every end of a session does: the session record returns to IDLE and the source is let go, the LEARN context going
OFF (R70). -/
def detachSession (x : Session) (s : State) : State :=
  let s := s.withLrn { s.lrn with session := none }
  match x.source with
  | .learn => ctxOff .learn s
  | .sense => s

/-- The session ends failed; the carrier figure is 0 but for CARRIER_OUT_OF_RANGE (R70, R71). -/
def failSession (x : Session) (why : LearnOutcome) (carrier : Nat) (s : State) : State :=
  notify (.learnResult x.tag why carrier 0 0 0 0) (detachSession x s)

/-- The session ends with the reduction of its frames: the staged record is filled, or the session fails (R70, R71, R76). -/
def reduceSession (x : Session) (s : State) : State :=
  match x.reduce with
  | .error why => failSession x why 0 s
  | .ok r =>
    let s := detachSession x s
    notify (.learnResult x.tag .ok r.carrier r.classes.length r.body.length r.later.length x.frames.length)
      (s.withLrn { s.lrn with staged := some r })

/-! ### Timers -/

/-- The state with another running session. -/
def setSession (x : Session) (s : State) : State := s.withLrn { s.lrn with session := some x }

/-- The end-gap timer of a session has reached its expiry moment (R66, R67). -/
def gapExpired (x : Session) (s : State) : Bool :=
  match x.state, x.gapExpiry with
  | .collecting, some t => !stampBefore (timeBase s) t
  | _, _ => false

/-- The end-gap timer expires in COLLECTING: with the source context in IN_FRAME the closing mark is set, otherwise the
session ends with reduction (R68). -/
def endGapExpires (x : Session) (s : State) : State :=
  if (ctxOf s x.source).state = .inFrame then setSession { x with closing := true } s else reduceSession x s

/-- The end-gap expiry is taken at once where it has already passed (R67). -/
def endGapAtOnce (x : Session) (s : State) : State :=
  if gapExpired x s then endGapExpires x s else setSession x s

/-- The end-gap timer set anew from an end stamp, LEARN_END_GAP as it stands (R66, R67). -/
def nextGapExpiry (stop : Stamp) (s : State) : Stamp := stop + BitVec.ofNat 32 (1000 * s.opc.params.learnEndGap)

/-! ### Deliveries -/

/-- The capture errors (Table 4-2). -/
inductive CaptureError where
  | tooLong | longMark
  | carrierOutOfRange (measured : Nat)
  deriving DecidableEq, Repr

/-- The failure reason of a capture error (R66). -/
def CaptureError.outcome : CaptureError → LearnOutcome
  | .tooLong => .tooLong
  | .longMark => .longMark
  | .carrierOutOfRange _ => .carrierOutOfRange

/-- The carrier figure of a failure by a capture error, a measured value above 10,000 as 10,000 (R54, R71). -/
def CaptureError.figure : CaptureError → Nat
  | .carrierOutOfRange c => min 10000 c
  | _ => 0

/-- A session of this source is running, and takes the deliveries of its context (R47). -/
def attachedTo (s : State) (input : Source) : Option Session :=
  match s.lrn.session with
  | some x => if x.source = input then some x else none
  | none => none

/-- A frame of the source context reaches the running session: the first is taken as F1 unless it began before the
session (R66); in COLLECTING a frame that began before the expiry joins the set, the timer is set anew, and the
fourth frame ends the session (R67).
DESIGN CHOICE (log entry 37): a frame that is not good, as one that begins at the very stamp of the expiry, leaves the closing
mark as it is. -/
def sessionTakesFrame (x : Session) (f : Frame) (measured : Option Measurement) (s : State) : State :=
  match x.state with
  | .waitingFirst =>
    if stampBefore f.start x.start then s
    else
      endGapAtOnce { x with state := .collecting, windowDue := none, gapExpiry := some (nextGapExpiry f.stop s),
                            frames := [f], measurement := measured } s
  | .collecting =>
    let good : Bool :=
      match x.gapExpiry with
      | some t => stampBefore f.start t
      | none => false
    let x : Session := { x with gapExpiry := some (nextGapExpiry f.stop s),
                                frames := if good then x.frames ++ [f] else x.frames,
                                closing := if good then false else x.closing }
    if 4 ≤ x.frames.length then reduceSession x s else endGapAtOnce x s

/-- A frame of a context reaches the Learn Unit; in IDLE it is passed over (R69). -/
def learnTakesFrame (input : Source) (f : Frame) (measured : Option Measurement) (s : State) : State :=
  match attachedTo s input with
  | some x => sessionTakesFrame x f measured s
  | none => s

/-- A capture error of a context reaches the Learn Unit: in WAITING_FIRST it ends the session, in COLLECTING it sets the
timer anew (R66, R67); the frame a closing mark awaited is over with it (log entry 9). -/
def learnTakesError (input : Source) (e : CaptureError) (stamp : Stamp) (s : State) : State :=
  match attachedTo s input with
  | none => s
  | some x =>
    match x.state with
    | .waitingFirst => failSession x e.outcome e.figure s
    | .collecting => endGapAtOnce { x with gapExpiry := some (nextGapExpiry stamp s), closing := false } s

/-- The running session whose closing mark awaits the frame in progress in a context (R68). -/
def awaiting (s : State) (input : Source) : Option Session :=
  match attachedTo s input with
  | some x => if x.closing ∧ (ctxOf s input).state = .inFrame then some x else none
  | none => none

/-- A context leaves IN_FRAME without a delivery, by `f`: the session whose closing mark awaits that frame ends in the
same step with reduction (R68). -/
def discarding (input : Source) (f : State → State) (s : State) : State :=
  match awaiting s input with
  | some x => reduceSession x (f s)
  | none => f s

/-! ### Masking (R55, R56) -/

/-- The masking condition rises: each context that is not OFF enters MASKED (R55). -/
def maskingRises (s : State) : State :=
  discarding .learn (ctxMasked .learn) (discarding .sense (ctxMasked .sense) s)

/-- The masking condition ends: each MASKED context enters SETTLING (R56). -/
def maskingEnds (s : State) : State := ctxUnmasked .learn (ctxUnmasked .sense s)

end Sys2Proof.Machine
end

