-- ==== Sys2Proof/Machine/Emission.lean ====
section
/-! DEFINITION. The Emission Scheduler: admission (R105 to R108), activation and the examination of the queues (R109 to
R111), stopping and ending (R112, R113, R134, R135), and what a CANCEL, RELEASE, FLUSH, DISABLE or fault does to jobs. -/

namespace Sys2Proof.Machine

/-! ### Records read from the library (R31) -/

/-- The bytes a chain holds, in chain order, up to the record's size (R16). -/
def chainBytes (l : Lib) (e : DirEntry) : List Byte :=
  ((e.chain.flatMap fun n =>
    match Table.get l.pool n with
    | some (.programmed b) => b
    | _ => []).take e.size)

/-- The committed record of a slot, none when it is EMPTY (R31). -/
def committedRecord (s : State) (slot : Nat) : Option Record :=
  (Table.get s.lib.directory slot).map fun e => Record.ofWire (chainBytes s.lib e)

/-! ### The job table and the queues -/

/-- The job table with one job changed. -/
def updateJobIn (jobs : List Job) (id : Nat) (f : Job → Job) : List Job :=
  jobs.map fun j => if j.id = id then f j else j

/-- The state with one live job changed. -/
def updateJob (s : State) (id : Nat) (f : Job → Job) : State :=
  s.withEms { s.ems with jobs := updateJobIn s.ems.jobs id f }

/-- The id at the head of an emitter's queue. -/
def headOf (s : State) (e : Emitter) : Option Nat := (s.ems.queues.get e).head?

/-- The most jobs the job table holds (R99). -/
def maxJobs : Nat := 32
/-- The most jobs an emitter queue holds (R102). -/
def maxQueue : Nat := 8
/-- The length of the recently-ended list (R104). -/
def maxRecent : Nat := 8

/-- An ended job's entry in the recently-ended list (R104). -/
def findEnded (s : State) (id : Nat) : Option Ended := s.ems.recent.find? fun r => r.id == id

/-- An entry joins the recently-ended list, which drops its oldest beyond 8 (R104). -/
def pushRecent (recent : List Ended) (x : Ended) : List Ended :=
  let all := recent ++ [x]
  all.drop (all.length - maxRecent)

/-! ### Job ids (R105) -/

/-- An id that no live job and no entry of the recently-ended list carries. -/
def idFree (m : Ems) (id : Nat) : Bool := !(m.jobs.any fun j => j.id == id) && !(m.recent.any fun r => r.id == id)

/-- The id after another, 255 followed by 1. -/
def idAfter (n : Nat) : Nat := if n ≥ 255 then 1 else n + 1

/-- The first free id after `n` within `fuel` candidates. -/
def firstFreeId (m : Ems) : Nat → Nat → Nat
  | 0, n => idAfter n
  | fuel + 1, n => if idFree m (idAfter n) then idAfter n else firstFreeId m fuel (idAfter n)

/-- The id of the next admission (R105). -/
def nextId (m : Ems) : Nat := firstFreeId m 254 m.lastId

/-! ### Admission (R106, R107) -/

/-- The refusal by the first emitter of a mask that is OFF or in FAULT, E0 first (R106). -/
def emitterRefusal (s : State) (mask : Mask) : Option Status :=
  (maskEmitters mask).findSome? fun e =>
    match (s.channels.get e).mode with
    | .on => none
    | .off => some .emitterOff
    | .fault _ => some .emitterFault

/-- The admission conditions after the argument checks, in order; none where every one holds (Table 7-3, rows 2 to 4). -/
def admissionRefusal (s : State) (mask : Mask) : Option Status :=
  match emitterRefusal s mask with
  | some st => some st
  | none =>
    if maxJobs ≤ s.ems.jobs.length then some .tableFull
    else if (maskEmitters mask).any fun e => decide (maxQueue ≤ (s.ems.queues.get e).length) then some .queueFull
    else none

/-- A job as its admission makes it (R107). -/
def newJob (id : Nat) (origin : Origin) (kind : JobKind) (mask : Mask) (report : Bool) : Job :=
  { id := id, origin := origin, kind := kind, mask := mask, report := report, state := .queued, early := false,
    framesSent := 0, step := 0, deadline := none, play := none }

/-- A job put into the job table and at the tail of every queue of its mask (R107). -/
def admitJob (origin : Origin) (kind : JobKind) (mask : Mask) (report : Bool) (s : State) : State :=
  let id := nextId s.ems
  s.withEms
    { s.ems with
      jobs := s.ems.jobs ++ [newJob id origin kind mask report]
      queues := s.ems.queues.mapAll fun e q => if hasEmitter mask e then q ++ [id] else q
      lastId := id }

/-- A hold limit of 0 stands for HOLD_LIMIT, resolved at the admission (R100). -/
def resolveLimit (s : State) (limit : Nat) : Nat := if limit = 0 then s.opc.params.holdLimit else limit

/-! ### The job's time line -/

/-- The channels that play a job: those of its mask neither in FAULT, nor OFF, nor STOPPED (R126, R135). -/
def participants (s : State) (j : Job) : List Emitter :=
  (maskEmitters j.mask).filter fun e =>
    decide ((s.channels.get e).mode = .on) && !(s.channels.get e).stopped

/-- The later of two moments, none counting as no moment. -/
def laterOf (a : Nat) : Option Nat → Nat
  | some b => max a b
  | none => a

/-- The later of a moment and the latest ready moment of a mask's channels (R126). -/
def readyFrom (s : State) (mask : Mask) (moment : Nat) : Nat :=
  (maskEmitters mask).foldl (fun t e => laterOf t (s.channels.get e).ready) moment

/-- The minimum frames of what a job plays (R10). -/
def Play.minFrames (p : Play) : Nat :=
  match p.snapshot with
  | some r => r.minFrames
  | none => 0

/-- The number of frames of a SEND, or of a SEND step: the larger of those asked and the minimum (R129, R133). -/
def Play.frameTarget (p : Play) (asked : Nat) : Nat := max asked p.minFrames

/-- Whether a job that enters ENDING stops in that step (Table 8-4). -/
def stopsAtOnce (why : JobOutcome) (p : Play) : Bool :=
  match p.phase with
  | .frame _ => false
  | .stepGap _ => true
  | .pause _ => true
  | .gap _ => decide (why = .cancelled) || decide (p.minFrames ≤ p.stepFrames)

/-- Whether a job in ENDING stops at the frame end that has just been counted (Table 8-4). -/
def stopsAtFrameEnd (why : JobOutcome) (p : Play) : Bool :=
  decide (why = .cancelled) || decide (p.minFrames ≤ p.stepFrames)

/-! ### The end of a job (R113) -/

/-- The route table with no mirror link naming a job (R151). -/
def clearLinks (routes : List (Nat × Route)) (id : Nat) : List (Nat × Route) :=
  routes.map fun (i, r) => (i, if r.link = some id then { r with link := none } else r)

/-- The Route Table is told the id of an ended job of origin ROUTE (R113, R151). -/
def tellRoutes (j : Job) (s : State) : State :=
  match j.origin with
  | .route _ => s.withRoutes (clearLinks s.routes j.id)
  | .host _ => s

/-- The channels that play a job leave it: a STOPPED one, which waits for the end of the job at the head of its queue, takes
part again (R135). -/
def leaveChannels (id : Nat) (s : State) : State :=
  s.withChannels (s.channels.mapAll fun e c => if headOf s e = some id then { c with stopped := false } else c)

/-- A live job ends with an outcome: its channels leave it, it leaves its queues and the job table, enters the recently-ended
list, raises JOB_END when reported, and the Route Table is told (R113, R135).  The examination of the queues follows in the step. -/
def endJob (id : Nat) (outcome : JobOutcome) (s : State) : State :=
  match findJob s id with
  | none => s
  | some j =>
    let s := leaveChannels id s
    let s := s.withEms
      { s.ems with
        jobs := s.ems.jobs.filter fun k => k.id != id
        queues := s.ems.queues.mapAll fun _ q => q.filter fun k => k != id
        recent := pushRecent s.ems.recent { id := id, outcome := outcome, framesSent := j.framesSent } }
    let s := notifyIf j.report (.jobEnd id outcome j.framesSent j.origin) s
    tellRoutes j s

/-! ### Steps of a SEQUENCE (R132, R133) -/

/-- Step `k` of a SEQUENCE starts at a moment: a SEND step takes its snapshot and waits in GAP for its first frame, after
a SEND step from the step start and otherwise from the later of it and the ready moments; a PAUSE step runs its
duration; an EMPTY slot ends the job with FAILED(NO_CODE) (Table 8-3). -/
def startStep (id k moment : Nat) (afterSend : Bool) (s : State) : State :=
  match findJob s id with
  | none => s
  | some j =>
    match j.kind with
    | .sequence steps =>
      match steps[k - 1]? with
      | none => endJob id .done s
      | some (.pause d) =>
        updateJob s id fun j =>
          { j with step := k, play := some { snapshot := none, stepFrames := 0, phase := .pause (moment + ms d) } }
      | some (.send slot _) =>
        match committedRecord s slot with
        | none => endJob id .failedNoCode (updateJob s id fun j => { j with step := k })
        | some r =>
          let start := if afterSend then moment else readyFrom s j.mask moment
          updateJob s id fun j =>
            { j with step := k, play := some { snapshot := some r, stepFrames := 0, phase := .gap start } }
    | _ => s

/-! ### Activation (R109 to R111) -/

/-- A SEND or HOLD takes its snapshot: an EMPTY slot ends the job with FAILED(NO_CODE); otherwise its channels wait in GAP
for frame 1, a HOLD takes its deadline, and an early-released HOLD enters ENDING(RELEASED) (R109, R111). -/
def activateSlot (id slot : Nat) (limit : Option Nat) (s : State) : State :=
  match committedRecord s slot with
  | none => endJob id .failedNoCode s
  | some r =>
    updateJob s id fun j =>
      { j with
        state := if j.early then .ending .released else .active
        deadline := limit.map fun l => s.now + sec l
        play := some { snapshot := some r, stepFrames := 0, phase := .gap (readyFrom s j.mask s.now) } }

/-- A QUEUED job activates (R109). -/
def activate (id : Nat) (s : State) : State :=
  match findJob s id with
  | none => s
  | some j =>
    match j.kind with
    | .send slot _ => activateSlot id slot none s
    | .hold slot limit => activateSlot id slot (some limit) s
    | .sequence _ => startStep id 1 s.now false (updateJob s id fun j => { j with state := .active })

/-- A QUEUED job that heads every queue of its mask (R109). -/
def canActivate (s : State) (id : Nat) : Bool :=
  match findJob s id with
  | none => false
  | some j => decide (j.state = .queued) && (maskEmitters j.mask).all fun e => decide (headOf s e = some id)

/-- The first queue head, E0 first, whose job can activate (R110). -/
def firstActivatable (s : State) : Option Nat :=
  emitters.findSome? fun e =>
    match headOf s e with
    | some id => if canActivate s id then some id else none
    | none => none

/-- Queue heads activated one after another until none can (R110). -/
def examineFor : Nat → State → State
  | 0, s => s
  | fuel + 1, s =>
    match firstActivatable s with
    | some id => examineFor fuel (activate id s)
    | none => s

/-- The examination of the queues (R110); every activation takes a job out of QUEUED, so as many rounds as there are live
jobs are enough. -/
def examine (s : State) : State := examineFor s.ems.jobs.length s

/-! ### Entering ENDING (R112, R134) -/

/-- An ACTIVE job enters ENDING with an end reason, and ends in the same step when its channels stop at once or none
remains (R112, Table 8-4). -/
def enterEnding (id : Nat) (why : JobOutcome) (s : State) : State :=
  match findJob s id with
  | none => s
  | some j =>
    let s := updateJob s id fun j => { j with state := .ending why }
    let stops : Bool :=
      (participants s j).isEmpty ||
        match j.play with
        | some p => stopsAtOnce why p
        | none => true
    if stops then endJob id why s else s

/-- A CANCEL of a live job: QUEUED ends at once, ACTIVE enters ENDING(CANCELLED), ENDING keeps its reason (R114). -/
def cancelJob (id : Nat) (s : State) : State :=
  match findJob s id with
  | none => s
  | some j =>
    match j.state with
    | .queued => endJob id .cancelled s
    | .active => enterEnding id .cancelled s
    | .ending _ => s

/-- What a CANCEL is answered (R114). -/
def cancelAnswer (s : State) (id : Nat) : Status :=
  match findJob s id with
  | some j =>
    match j.state with
    | .ending _ => .tooLate
    | _ => .ok
  | none => if (findEnded s id).isSome then .tooLate else .notFound

/-- A job of the kind HOLD. -/
def Job.isHold (j : Job) : Bool :=
  match j.kind with
  | .hold _ _ => true
  | _ => false

/-- What a RELEASE is answered (R115). -/
def releaseAnswer (s : State) (id : Nat) : Status :=
  match findJob s id with
  | some j =>
    if j.isHold then
      match j.state with
      | .ending _ => .tooLate
      | _ => .ok
    else .wrongKind
  | none => if (findEnded s id).isSome then .tooLate else .notFound

/-- A RELEASE of a live HOLD: QUEUED takes its early-release mark, ACTIVE enters ENDING(RELEASED) (R115). -/
def releaseJob (id : Nat) (s : State) : State :=
  match findJob s id with
  | none => s
  | some j =>
    if j.isHold then
      match j.state with
      | .queued => updateJob s id fun j => { j with early := true }
      | .active => enterEnding id .released s
      | .ending _ => s
    else s

/-! ### Several jobs at once -/

/-- The jobs of some queues, each at its first appearance (R116). -/
def jobsOf (s : State) (es : List Emitter) : List Nat :=
  (es.flatMap fun e => s.ems.queues.get e).foldl (fun seen id => if id ∈ seen then seen else seen ++ [id]) []

/-- A job a FLUSH would cancel: one not already in ENDING (R116). -/
def cancellable (s : State) (id : Nat) : Bool :=
  match findJob s id with
  | some j =>
    match j.state with
    | .ending _ => false
    | _ => true
  | none => false

/-- The jobs a FLUSH of a mask cancels or puts into ENDING, in order (R116). -/
def flushTargets (s : State) (mask : Mask) : List Nat := (jobsOf s (maskEmitters mask)).filter (cancellable s)

/-- Whether a live job is QUEUED. -/
def isQueued (s : State) (id : Nat) : Bool :=
  match findJob s id with
  | some j => decide (j.state = .queued)
  | none => false

/-- Every QUEUED job of an emitter's queue ends with an outcome, in queue order (R118, R120). -/
def failQueued (e : Emitter) (outcome : JobOutcome) (s : State) : State :=
  ((s.ems.queues.get e).filter (isQueued s)).foldl (fun s id => endJob id outcome s) s

/-- The job at the head of a faulted channel's queue: ACTIVE enters ENDING(FAILED(EMITTER_FAULT)); ENDING keeps its reason
and ends at once if none of its channels remains (R120). -/
def faultHead (e : Emitter) (s : State) : State :=
  match headOf s e with
  | none => s
  | some id =>
    match findJob s id with
    | none => s
    | some j =>
      match j.state with
      | .queued => s
      | .active => enterEnding id .failedFault s
      | .ending why => if (participants s j).isEmpty then endJob id why s else s

end Sys2Proof.Machine
end

