-- ==== Sys2Proof/Machine/Channels.lean ====
section
/-! DEFINITION. The emitter channels: marks and carrier pulses on an output (R8, R127), the check window (R136), the mask
window and the masking condition (R140, R141), the events of a job's time line (R126 to R133), and drive faults (R138). -/

namespace Sys2Proof.Machine

/-! ### A mark on one channel -/

/-- The close of the check window of a mark: 20 µs after its start, or the end of its drive if the mark is shorter (R136). -/
def checkClose (start duration carrier duty : Nat) : Nat :=
  if 20 ≤ duration then start + us 20 else start + driveLength duration carrier duty

/-- A mark starts on a channel: its drive begins and its check window opens; a window still open, that of a raised pulse
which outlasts the space before this mark, runs on (R127, R136; log entry 20). -/
def Channel.startMark (c : Channel) (r : Record) (duration start : Nat) : Channel :=
  { c with
    drive := some { start := start, carrier := r.carrier, duty := r.duty, pulses := pulseCount duration r.carrier,
                    edge := 1, raised := decide (r.carrier ≠ 0 ∧ nearestPulses duration r.carrier = 0) }
    check := (c.check.filter fun t => decide (start ≤ t)) ++ [checkClose start duration r.carrier r.duty]
    out := true }

/-- A mark ends on a channel: its drive is over but for a raised pulse, which is sent whole (R127); a check window that
closed before this moment has been passed (R136). -/
def Channel.endMark (c : Channel) (moment : Nat) : Channel :=
  let check := c.check.filter fun t => decide (moment ≤ t)
  match c.drive with
  | some d => if d.raised then { c with check := check } else { c with drive := none, check := check, out := false }
  | none => { c with check := check, out := false }

/-- The next pulse edge of a drive has been reached: edge 2k ends no pulse and starts pulse k + 1, edge 2k + 1 ends it; a
steady drive has none (R8). -/
def Drive.edgeReached (d : Drive) (now : Nat) : Bool :=
  decide (d.carrier ≠ 0) &&
    if d.edge % 2 = 1 then decide (((d.edge / 2) * 100 + d.duty) * 4000 ≤ d.carrier * (now - d.start))
    else decide ((d.edge / 2) * 400000 ≤ d.carrier * (now - d.start))

/-- The next pulse edge is taken: the output follows it, and the drive is over after the last pulse's end (R8, R127). -/
def Channel.takeEdge (c : Channel) (d : Drive) : Channel :=
  if d.edge + 1 = 2 * d.pulses then { c with drive := none, out := false }
  else { c with drive := some { d with edge := d.edge + 1 }, out := decide (d.edge % 2 = 0) }

/-- The end of the drive of a raised pulse that is still running (R8, R127). -/
def Channel.raisedEnd (c : Channel) : Option Nat :=
  match c.drive with
  | some d => if d.raised then some (d.start + ceilDiv (d.duty * 4000) d.carrier) else none
  | none => none

/-! ### Mask windows (R141) -/

/-- A frame starts on a channel at a moment: its near flag is copied, and a near frame opens the mask window with
MASK_TAIL as it stands (R140, R141). -/
def Channel.frameStarts (c : Channel) (maskTail : Nat) : Channel :=
  { c with frameNear := c.near, window := if c.near then .opened (ms maskTail) else c.window }

/-- An open mask window takes a moment as the end of its frame (R141). -/
def MaskWindow.frameEndsAt (w : MaskWindow) (moment : Nat) : MaskWindow :=
  match w with
  | .opened tail => .closing (moment + tail)
  | other => other

/-- A frame ends on a channel at a moment: the last mark ends, the ready moment is set with MIN_FRAME_GAP as it stands, and
the mask window takes the frame's end, or the end of a raised pulse past it (R126, R128, R141). -/
def Channel.frameEnds (c : Channel) (minFrameGap moment : Nat) : Channel :=
  let c := c.endMark moment
  { c with ready := some (moment + ms minFrameGap), window := c.window.frameEndsAt (laterOf moment c.raisedEnd) }

/-- The channels taking part in a job, changed by a function of each. -/
def updateParticipants (j : Job) (f : Channel → Channel) (s : State) : State :=
  let es := participants s j
  s.withChannels (s.channels.mapAll fun e c => if e ∈ es then f c else c)

/-- A change of the channels that may open or close mask windows: where the masking condition rises or ends by it, the
Capture Unit is handed the rise or the end (R141). -/
def withMasking (f : State → State) (s : State) : State :=
  let t := f s
  if !maskingPresent s && maskingPresent t then maskingRises t
  else if maskingPresent s && !maskingPresent t then maskingEnds t
  else t

/-! ### The events of a job's time line -/

/-- The play of a job with another phase. -/
def setPhase (id : Nat) (ph : PlayPhase) (s : State) : State :=
  updateJob s id fun j => { j with play := j.play.map fun p => { p with phase := ph } }

/-- The frame in progress next: its number within the job or the step is one more than the frames completed (R128). -/
def Play.durations (p : Play) : List Nat :=
  match p.snapshot with
  | some r => r.frameDurations (p.stepFrames + 1)
  | none => []

/-- A frame of a job starts at its moment: the channels taking part go from GAP to MARK, near windows open, mark 0 begins
(R126, R127, R140, R141). -/
def startFrame (j : Job) (p : Play) (r : Record) (start : Nat) (s : State) : State :=
  let d := p.durations.headD 0
  withMasking
    (fun s =>
      setPhase j.id (.frame { start := start, element := 0, stop := start + us d })
        (updateParticipants j (fun c => (c.frameStarts s.opc.params.maskTail).startMark r d start) s))
    s

/-- FRAME_START of a job that waits in GAP and whose moment has come (R126, R129). -/
def frameStartEvent (id : Nat) (s : State) : State :=
  match findJob s id with
  | none => s
  | some j =>
    match j.play with
    | some { snapshot := some r, stepFrames := n, phase := .gap start } =>
      if start ≤ s.now then startFrame j { snapshot := some r, stepFrames := n, phase := .gap start } r start s else s
    | _ => s

/-- ELEMENT_END: an element other than the frame's last mark ends at its nominal time and the next begins (R127). -/
def elementEndEvent (id : Nat) (s : State) : State :=
  match findJob s id with
  | none => s
  | some j =>
    match j.play with
    | some { snapshot := some r, stepFrames := n, phase := .frame run } =>
      let p : Play := { snapshot := some r, stepFrames := n, phase := .frame run }
      match p.durations[run.element + 1]? with
      | none => s
      | some d =>
        if run.stop ≤ s.now then
          let f : Channel → Channel :=
            if run.element % 2 = 0 then fun c => c.endMark run.stop else fun c => c.startMark r d run.stop
          setPhase id (.frame { run with element := run.element + 1, stop := run.stop + us d })
            (updateParticipants j f s)
        else s
    | _ => s

/-- The start of the next frame after one that started and ended at the given moments: the later of the start plus the
repeat interval and the end plus MIN_FRAME_GAP (R9). -/
def nextFrameStart (r : Record) (minFrameGap start stop : Nat) : Nat :=
  max (start + ms r.interval) (stop + ms minFrameGap)

/-- A job goes on after a frame to the next frame of the same snapshot (R9, R129, R130). -/
def nextFrame (j : Job) (r : Record) (run : FrameRun) (s : State) : State :=
  setPhase j.id (.gap (nextFrameStart r s.opc.params.minFrameGap run.start run.stop)) s

/-- A step of a SEQUENCE ends at a moment: the job ends DONE after its last; a PAUSE starts at once, a SEND step after a
SEND step MIN_FRAME_GAP later (R132, R133). -/
def stepEnds (j : Job) (steps : List Step) (moment : Nat) (wasSend : Bool) (s : State) : State :=
  match steps[j.step]? with
  | none => endJob j.id .done s
  | some (.pause _) => startStep j.id (j.step + 1) moment wasSend s
  | some (.send _ _) =>
    if wasSend then setPhase j.id (.stepGap (moment + ms s.opc.params.minFrameGap)) s
    else startStep j.id (j.step + 1) moment false s

/-- What a job does at a frame end that has been counted: an ENDING job stops or goes on (Table 8-4), a SEND ends DONE
after its frames (R129), a HOLD goes on (R130), a SEQUENCE goes on or ends its step (R132). -/
def afterFrame (j : Job) (p : Play) (r : Record) (run : FrameRun) (s : State) : State :=
  match j.state with
  | .queued => s
  | .ending why => if stopsAtFrameEnd why p then endJob j.id why s else nextFrame j r run s
  | .active =>
    match j.kind with
    | .send _ frames => if p.frameTarget frames ≤ p.stepFrames then endJob j.id .done s else nextFrame j r run s
    | .hold _ _ => nextFrame j r run s
    | .sequence steps =>
      match steps[j.step - 1]? with
      | some (.send _ frames) =>
        if p.frameTarget frames ≤ p.stepFrames then stepEnds j steps run.stop true s else nextFrame j r run s
      | _ => nextFrame j r run s

/-- FRAME_END: the frame's last mark ends; the frame counts, the ready moments and mask windows are set, the job goes on,
stops or ends, and the queues are examined (R126, R128, R113). -/
def frameEndEvent (id : Nat) (s : State) : State :=
  match findJob s id with
  | none => s
  | some j =>
    match j.play with
    | some { snapshot := some r, stepFrames := n, phase := .frame run } =>
      let p : Play := { snapshot := some r, stepFrames := n, phase := .frame run }
      if run.element + 1 = p.durations.length ∧ run.stop ≤ s.now ∧ participants s j ≠ [] then
        let s := updateParticipants j (fun c => c.frameEnds s.opc.params.minFrameGap run.stop) s
        let p : Play := { p with stepFrames := n + 1 }
        let s := updateJob s id fun j => { j with framesSent := min 65535 (j.framesSent + 1), play := some p }
        examine (afterFrame j p r run s)
      else s
    | _ => s

/-- PAUSE_END of a job whose PAUSE step has run its duration (R132). -/
def pauseEndEvent (id : Nat) (s : State) : State :=
  match findJob s id with
  | none => s
  | some j =>
    match j.kind, j.play with
    | .sequence steps, some { snapshot := _, stepFrames := _, phase := .pause stop } =>
      if stop ≤ s.now then examine (stepEnds j steps stop false s) else s
    | _, _ => s

/-- SEND_STEP_START: MIN_FRAME_GAP after a SEND step's end the next SEND step starts (R132, R133). -/
def sendStepStartEvent (id : Nat) (s : State) : State :=
  match findJob s id with
  | none => s
  | some j =>
    match j.play with
    | some { snapshot := _, stepFrames := _, phase := .stepGap start } =>
      if start ≤ s.now then examine (startStep id (j.step + 1) start true s) else s
    | _ => s

/-- HOLD_DEADLINE_EXPIRY of an ACTIVE HOLD: it enters ENDING(HOLD_LIMIT); a job already in ENDING is left as it is (R131). -/
def holdDeadlineEvent (id : Nat) (s : State) : State :=
  match findJob s id with
  | none => s
  | some j =>
    if j.isHold ∧ j.state = .active ∧ dueBy j.deadline s.now then examine (enterEnding id .holdLimit s) else s

/-! ### Carrier pulses, mask windows, drive faults -/

/-- CARRIER_PULSE_EDGE on an output whose next pulse edge has been reached (R8, R127). -/
def pulseEdgeEvent (e : Emitter) (s : State) : State :=
  match (s.channels.get e).drive with
  | some d => if d.edgeReached s.now then updateChannel s e fun c => c.takeEdge d else s
  | none => s

/-- MASK_WINDOW_CLOSE of a window whose moment has come; the masking condition ends with the last (R141, R56). -/
def maskWindowCloseEvent (e : Emitter) (s : State) : State :=
  match (s.channels.get e).window with
  | .closing t =>
    if t ≤ s.now then withMasking (fun s => updateChannel s e fun c => { c with window := .closed }) s else s
  | _ => s

/-- The job whose frame a channel is playing: the head of its queue, while a frame of it is in progress and the channel
takes part (R138). -/
def playingFrame (s : State) (e : Emitter) : Bool :=
  match headOf s e with
  | none => false
  | some id =>
    match findJob s id with
    | none => false
    | some j =>
      decide (e ∈ participants s j) &&
        match j.play with
        | some { snapshot := _, stepFrames := _, phase := .frame _ } => true
        | _ => false

/-- A channel faults: the drive stops, the fault kind is recorded; a frame in progress is cut off, its mask window and
ready moment taking the fault as the frame's end; a fault in the tail of a raised pulse after a near frame closes the
window earlier by what remained of the pulse (R138, R141; log entry 10). -/
def Channel.faults (c : Channel) (kind : FaultKind) (inFrame : Bool) (minFrameGap now : Nat) : Channel :=
  { c with
    mode := .fault kind, drive := none, check := [], out := false
    ready := if inFrame then some (now + ms minFrameGap) else c.ready
    window :=
      match c.window with
      | .closing t =>
        match c.raisedEnd with
        | some rEnd => if inFrame = false ∧ c.frameNear = true then .closing (t - (rEnd - now)) else .closing t
        | none => .closing t
      | w => if inFrame then w.frameEndsAt now else w }

/-- A channel detects a drive fault: it enters FAULT and hands over EMITTER_FAULT (R138); then the scheduler fails the
QUEUED jobs of its queue, ends or leaves the head job, and examines the queues (R120).
DESIGN CHOICE (log entry 35): the moment of the fault is the moment the row is taken, so where an OPEN_WINDOW_CLOSE is late the
ready moment and the close of the mask window count from then, not from the close of the check window. -/
def driveFault (e : Emitter) (kind : FaultKind) (s : State) : State :=
  let s := updateChannel s e fun c => c.faults kind (playingFrame s e) s.opc.params.minFrameGap s.now
  let s := notify (.emitterFault e kind) s
  examine (faultHead e (failQueued e .failedFault s))

/-- OPEN_WINDOW_CLOSE of the oldest check window whose moment has come, no drive current having been sensed in it (R136). -/
def openWindowCloseEvent (e : Emitter) (s : State) : State :=
  if dueBy (s.channels.get e).check.head? s.now then driveFault e .opened s else s

/-- OVERCURRENT while the output drives (R137). -/
def overcurrentEvent (e : Emitter) (s : State) : State :=
  if (s.channels.get e).out then driveFault e .short s else s

end Sys2Proof.Machine
end

