-- ==== Sys2Proof/Machine/Routes.lean ====
section
/-! DEFINITION. The Route Table: the walk for a route event (R147, R148), its admissions (R149, R150, R152) and its
releases (R150). -/

namespace Sys2Proof.Machine

/-- The number of route entries (R144). -/
def routeCount : Nat := 24

/-- The state with an entry of the route table changed. -/
def updateRoute (s : State) (i : Nat) (f : Route → Route) : State :=
  match Table.get s.routes i with
  | some r => s.withRoutes (Table.set s.routes i (f r))
  | none => s

/-- The job a route entry admits (R149, R150). -/
def routeKind (s : State) (r : Route) : JobKind :=
  match r.action with
  | .send => .send r.target r.frames
  | .mirror => .hold r.target (resolveLimit s r.holdLimit)

/-- An entry asks for its admission: a refused one raises ROUTE_DROPPED; an admitted HOLD of a MIRROR entry becomes its
mirror link; then the queues are examined (R108, R149, R150, R152). -/
def routeAdmission (i : Nat) (r : Route) (s : State) : State :=
  match admissionRefusal s r.mask with
  | some st => notify (.routeDropped i st) s
  | none =>
    let id := nextId s.ems
    let s := admitJob (.route i) (routeKind s r) r.mask r.report s
    let s :=
      match r.action with
      | .mirror => updateRoute s i fun r => { r with link := some id }
      | .send => s
    examine s

/-- The release of an entry's linked job: made as a RELEASE would be, and the link cleared whatever the answer (R150). -/
def routeRelease (i : Nat) (s : State) : State :=
  match Table.get s.routes i with
  | none => s
  | some r =>
    match r.link with
    | none => s
    | some id => updateRoute (examine (releaseJob id s)) i fun r => { r with link := none }

/-- The turn of entry `i` in the walk for a route event in AWAKE (R148). -/
def routeTurn (slot : Nat) (kind : Trigger) (s : State) (i : Nat) : State :=
  match Table.get s.routes i with
  | none => s
  | some r =>
    if r.source ≠ slot then s
    else if r.trigger = kind ∧ r.link = none then routeAdmission i r s
    else if kind = .released then routeRelease i s
    else s

/-- The turn of entry `i` for a RELEASED event in STANDBY_PENDING: releases only (R147). -/
def routeReleaseTurn (slot : Nat) (s : State) (i : Nat) : State :=
  match Table.get s.routes i with
  | none => s
  | some r => if r.source = slot then routeRelease i s else s

/-- A route event reaches the Route Table (R147, R148). -/
def routeEvent (slot : Nat) (kind : Trigger) (s : State) : State :=
  match s.opc.state with
  | .awake => (List.range routeCount).foldl (routeTurn slot kind) s
  | .standbyPending => if kind = .released then (List.range routeCount).foldl (routeReleaseTurn slot) s else s
  | _ => s

end Sys2Proof.Machine
end

