-- ==== Sys2Proof/Machine/Recognizer.lean ====
section
/-! DEFINITION. The Recognizer: the signature index (R80 to R82), the search of R84, the press machine (R87 to R91), commit
news under a press (R93), and frames in STANDBY and WAKING (R97). -/

namespace Sys2Proof.Machine

/-! ### The signature index -/

/-- The index entry of a slot's record and flags (R80). -/
def indexEntry (r : Record) (f : SlotFlags) : IndexEntry :=
  { classes := r.classes, body := r.body, later := r.later, notify := f.notify, wake := f.wake }

/-- The index built from a directory: one entry for each VALID slot that carries RECOGNIZE (R81). -/
def buildIndex (l : Lib) : List (Nat × IndexEntry) :=
  l.directory.filterMap fun (slot, e) =>
    if e.flags.recognize then some (slot, indexEntry (Record.ofWire (chainBytes l e)) e.flags) else none

/-- The change kinds of commit news (R32). -/
inductive NewsKind where
  | record | empty | flags
  deriving DecidableEq, Repr

/-- The index after a commit on a slot whose new state is given: its record and flags, or none when EMPTY (R82, Table 6-1).
A FLAGS news on an indexed slot changes the entry's NOTIFY and WAKE flags alone. -/
def indexAfter (index : List (Nat × IndexEntry)) (kind : NewsKind) (slot : Nat) (new : Option (Record × SlotFlags)) :
    List (Nat × IndexEntry) :=
  match new with
  | none => Table.erase index slot
  | some (r, f) =>
    if f.recognize then
      match kind, Table.get index slot with
      | .flags, some e => Table.set index slot { e with notify := f.notify, wake := f.wake }
      | _, _ => Table.set index slot (indexEntry r f)
    else Table.erase index slot

/-! ### The search (R84) -/

/-- What a delivered frame is found to be. -/
inductive SearchResult where
  | continuation
  | body (slot : Nat)
  | unknown
  deriving DecidableEq, Repr

/-- A frame matches an index entry's body. -/
def bodyMatches (tolerance : Nat) (d : List Nat) (e : IndexEntry) : Bool := matchesList tolerance e.classes e.body d

/-- A frame matches an index entry's repeat part; an absent one matches nothing. -/
def laterMatches (tolerance : Nat) (d : List Nat) (e : IndexEntry) : Bool := matchesList tolerance e.classes e.later d

/-- The lowest indexed slot whose body matches a frame (R84). -/
def firstBody (tolerance : Nat) (d : List Nat) : List (Nat × IndexEntry) → Option (Nat × IndexEntry)
  | [] => none
  | (slot, e) :: rest => if bodyMatches tolerance d e then some (slot, e) else firstBody tolerance d rest

/-- A frame continues the press under way (R84). -/
def continuesPress (r : Rec) (tolerance : Nat) (d : List Nat) : Bool :=
  match r.press with
  | none => false
  | some p =>
    match Table.get r.index p.slot with
    | some e => bodyMatches tolerance d e || laterMatches tolerance d e
    | none => false

/-- The search for one frame: the pressed code's lists, then the bodies in ascending slot order (R84). -/
def search (r : Rec) (tolerance : Nat) (d : List Nat) : SearchResult :=
  if continuesPress r tolerance d then .continuation
  else
    match firstBody tolerance d r.index with
    | some (slot, _) => .body slot
    | none => .unknown

/-! ### The press machine -/

/-- The state with another press record. -/
def setPress (p : Option Press) (s : State) : State := s.withRcg { s.rcg with press := p }

/-- The expiry of a release timer set now (R87, R89).
DESIGN CHOICE (log entry 35): now is the moment the delivery is taken, which is later than the frame's end where the gap was
overdue. -/
def releaseDue (s : State) : Nat := s.now + ms s.opc.params.releaseTimeout

/-- A press begins on a slot: PRESSED where NOTIFY is set, then the route event (R87). -/
def beginPress (slot : Nat) (s : State) : State :=
  let n : Bool :=
    match Table.get s.rcg.index slot with
    | some e => e.notify
    | none => false
  let s := setPress (some { slot := slot, count := 0, notify := n, due := releaseDue s }) s
  routeEvent slot .pressed (notifyIf n (.pressed slot) s)

/-- The press under way ends with a reason: RELEASED where notify is set, then the route event, then IDLE (R90, R91, R93). -/
def endPress (p : Press) (why : ReleaseReason) (s : State) : State :=
  setPress none (routeEvent p.slot .released (notifyIf p.notify (.released p.slot p.count why) s))

/-- A continuation is reported when the count has risen to a multiple of HOLD_REPORT_EVERY (R89). -/
def reportsHeld (every count : Nat) : Bool := decide (count < 65535) && decide (every ≠ 0) && (count + 1) % every == 0

/-- A continuation: the timer restarts, the count rises to 65,535 at most, HELD and its route event at the multiples of
HOLD_REPORT_EVERY (R89). -/
def continuePress (p : Press) (s : State) : State :=
  let count := min 65535 (p.count + 1)
  let held := reportsHeld s.opc.params.holdReportEvery p.count
  let s := setPress (some { p with count := count, due := releaseDue s }) s
  if held then routeEvent p.slot .held (notifyIf p.notify (.held p.slot count) s) else s

/-- The Recognizer acts on a frame in AWAKE or STANDBY_PENDING (R85 to R90). -/
def actOnFrame (d : List Nat) (s : State) : State :=
  match search s.rcg s.opc.params.matchTolerance d, s.rcg.press with
  | .continuation, some p => continuePress p s
  | .continuation, none => s
  | .body slot, none => beginPress slot s
  | .body slot, some p => beginPress slot (endPress p .otherCode s)
  | .unknown, _ => notifyIf (s.opc.params.reportUnknown == 1) (.unknownFrame d) s

/-- A wake begins with a cause: WAKING, its completion due 2 ms after the moment it is taken (R186, R187; log entry 35). -/
def beginWake (cause : WakeCause) (s : State) : State :=
  s.withOpc { s.opc with state := .waking, wake := some cause, wakeDue := s.now + wakeTime }

/-- A frame met in STANDBY: a wake frame is kept and wakes the part with the cause CODE; any other is passed over (R97). -/
def standbyFrame (d : List Nat) (s : State) : State :=
  match firstBody s.opc.params.matchTolerance d s.rcg.index with
  | some (slot, e) => if e.wake then beginWake (.code slot) (s.withRcg { s.rcg with kept := [d] }) else s
  | none => s

/-- A SENSE frame reaches the Recognizer (R96, R97). -/
def recognizerTakesFrame (d : List Nat) (s : State) : State :=
  match s.opc.state with
  | .awake | .standbyPending => actOnFrame d s
  | .standby => standbyFrame d s
  | .waking => s.withRcg { s.rcg with kept := s.rcg.kept ++ [d] }
  | .mounting => s

/-- The frames kept for a wake are acted on in order of delivery (R97, R187).
DESIGN CHOICE (log entry 38): each acts as a delivery of this moment, so the release timer of the press counts from the wake
completion and not from the end of the kept frame. -/
def actOnKept (s : State) : State :=
  s.rcg.kept.foldl (fun s d => actOnFrame d s) (s.withRcg { s.rcg with kept := [] })

/-- RELEASE_TIMER_EXPIRY: a press whose release timer has run out ends with TIMEOUT (R91). -/
def releaseTimerEvent (s : State) : State :=
  match s.rcg.press with
  | some p => if p.due ≤ s.now then endPress p .timeout s else s
  | none => s

/-! ### Commit news (R32, R93) -/

/-- The Recognizer takes the commit news of a slot: the index is updated, and a press on the slot is withdrawn, or follows
the new NOTIFY flag (R82, R93). -/
def commitNews (kind : NewsKind) (slot : Nat) (new : Option (Record × SlotFlags)) (s : State) : State :=
  let s := s.withRcg { s.rcg with index := indexAfter s.rcg.index kind slot new }
  match s.rcg.press with
  | none => s
  | some p =>
    if p.slot ≠ slot then s
    else
      match kind, new with
      | .flags, some (_, f) =>
        if f.recognize then setPress (some { p with notify := f.notify }) s else endPress p .withdrawn s
      | _, _ => endPress p .withdrawn s

end Sys2Proof.Machine
end

