-- ==== Sys2Proof/Machine/Capture.lean ====
section
/-! DEFINITION. The events of the capture contexts (R43 to R51) with their deliveries and errors (R47 to R49, R54), and the
timers of a learn session (R65, R68). -/

namespace Sys2Proof.Machine

/-! ### The end of a frame (R46, R47) -/

/-- The context after a frame end: IDLE under R42; a candidate that began in the gap becomes the candidate of IDLE (R46),
while the polarity stays as it was (log entry 11); the measure flag is clear (R52). -/
def Context.afterFrame (c : Context) (input : Source) (p : Params) (level : Bool) : Context :=
  let i : Context := { c.enterIdle input p level with measure := false }
  match c.mark with
  | some m =>
    if c.invert = p.invertOf input then { i with armed := true, mark := some m, entered := false, group := c.group } else i
  | none => i

/-- The frame a context has recorded, with its stamps (R41, R47). -/
def Context.frame (c : Context) : Frame :=
  { durations := c.buffer, start := stampOf c.frameStart, stop := stampOf (c.gapFrom.getD c.frameStart) }

/-- A SENSE frame reaches its consumers: the Recognizer and, while a session is attached, the Learn Unit, in either order
(R47; log entry 3). -/
def deliverSense (f : Frame) (s : State) : State :=
  match attachedTo s .sense with
  | none => recognizerTakesFrame f.durations s
  | some _ =>
    if Config.recognizerFirst s.draws then
      learnTakesFrame .sense f none (recognizerTakesFrame f.durations (countDraw s))
    else recognizerTakesFrame f.durations (learnTakesFrame .sense f none (countDraw s))

/-- A LEARN frame reaches the Learn Unit, the measured one with its measurement or, outside both bands, as
CARRIER_OUT_OF_RANGE stamped with the frame's end (R52, R54). -/
def deliverLearn (f : Frame) (measured : Option Measurement) (s : State) : State :=
  match measured with
  | some m =>
    if carrierOk m.carrier then learnTakesFrame .learn f (some m) s
    else learnTakesError .learn (.carrierOutOfRange m.carrier) f.stop s
  | none => learnTakesFrame .learn f none s

/-- A frame ends: the context enters IDLE and hands the frame to its consumers (R46, R47). -/
def frameEnds (input : Source) (s : State) : State :=
  let c := ctxOf s input
  let measured := if c.measure then some (measureGroups c.groups) else none
  let s := setCtx s input (c.afterFrame input s.opc.params (s.cap.level input))
  match input with
  | .sense => deliverSense c.frame s
  | .learn => deliverLearn c.frame measured s

/-- A capture error: the frame is discarded, the context enters SETTLING, and the Learn Unit is handed the error; the
Recognizer passes errors over (R48, R49, R85). -/
def captureError (input : Source) (e : CaptureError) (s : State) : State :=
  learnTakesError input e (timeBase s) (ctxSettling input s)

/-! ### The timed events of a context, each taken when its moment has come -/

/-- The end of an envelope mark, or of the wait of R42, once 100 µs have passed without a pulse (R51). -/
def takeEnvelope (input : Source) (s : State) : State :=
  if dueBy ((ctxOf s input).envelopeDue (inputActive s input)) s.now then
    setCtx s input (ctxOf s input).envelopeEnded
  else s

/-- The end of the wait of SETTLING (R50). -/
def takeSettled (input : Source) (s : State) : State :=
  if dueBy ((ctxOf s input).settleDue (inputActive s input)) s.now then ctxIdle input s else s

/-- The end of a frame (R46). -/
def takeGap (input : Source) (s : State) : State :=
  if (ctxOf s input).gapReached input (inputActive s input) s.now then frameEnds input s else s

/-- A candidate reaches GLITCH_LIMIT: it begins a frame, becomes the next mark, or as mark 193 makes the frame too long
(R43, R44, R48). -/
def takeCandidate (input : Source) (s : State) : State :=
  let c := ctxOf s input
  if c.candidateReached input (inputActive s input) s.now then
    if c.state = .inFrame ∧ 192 ≤ c.marksEntered then captureError input .tooLong s
    else setCtx s input c.candidateEntered
  else s

/-- A mark reaches 65,000 µs (R49). -/
def takeLong (input : Source) (s : State) : State :=
  if dueBy ((ctxOf s input).longDue input (inputActive s input)) s.now then captureError input .longMark s else s

/-- Everything of a context whose moment has come before an edge reaches it (log entry 12). -/
def catchUp (input : Source) (s : State) : State :=
  let s := takeEnvelope input s
  let s := if dueBefore ((ctxOf s input).settleDue (inputActive s input)) s.now then ctxIdle input s else s
  let s := if dueBefore (ctxOf s input).gapDue s.now then takeGap input s else s
  takeLong input (takeCandidate input s)

/-! ### Edges -/

/-- The pin level that a context reads as active, or as inactive (R39). -/
def levelFor (input : Source) (invert active : Bool) : Bool :=
  match input with
  | .sense => if active then invert else !invert
  | .learn => if active then !invert else invert

/-- The pin of an input at another level. -/
def setLevel (input : Source) (level : Bool) (s : State) : State := s.withCap (s.cap.withLevel input level)

/-- CANDIDATE_MARK_BEGINS: an edge from inactive to active; an input already active has none (R43 to R45, R51).
DESIGN CHOICE (log entry 34): a mark whose 65,000 µs passed inside a space that R45 joins with this edge is too long from
this edge on, so LONG_MARK is detected, and stamped, at this edge; R49 gives the moment for the pulses of one LEARN group
alone. -/
def riseEvent (input : Source) (s : State) : State :=
  let s := catchUp input s
  if inputActive s input then s
  else
    let c := ctxOf s input
    let s := setLevel input (levelFor input c.invert true) s
    takeLong input (takeCandidate input (setCtx s input (c.rise input (edgeMoment input s.now))))

/-- MARK_ENDS: an edge from active to inactive; an input already inactive has none (R43, R44, R50, R51). -/
def fallEvent (input : Source) (s : State) : State :=
  let s := catchUp input s
  if inputActive s input then
    let c := ctxOf s input
    let s := setLevel input (levelFor input c.invert false) s
    setCtx s input (c.fall input (edgeMoment input s.now))
  else s

/-! ### The rows of the table -/

/-- ENVELOPE_MARK_END, on the LEARN input (R51). -/
def envelopeEvent (s : State) : State := takeEnvelope .learn s

/-- GLITCH_LIMIT_REACHED (R43, R44, R48). -/
def candidateEvent (input : Source) (s : State) : State := takeCandidate input (takeEnvelope input s)

/-- FRAME_GAP_REACHED (R46). -/
def gapEvent (input : Source) (s : State) : State := takeGap input (takeEnvelope input s)

/-- LONG_MARK (R49). -/
def longEvent (input : Source) (s : State) : State := takeLong input (takeEnvelope input s)

/-- SETTLING_DONE (R50). -/
def settledEvent (input : Source) (s : State) : State := takeSettled input s

/-! ### The timers of a learn session -/

/-- WINDOW_EXPIRY in WAITING_FIRST: the session ends with NO_SIGNAL (R65). -/
def windowEvent (s : State) : State :=
  match s.lrn.session with
  | some x => if x.state = .waitingFirst ∧ dueBy x.windowDue s.now then failSession x .noSignal 0 s else s
  | none => s

/-- END_GAP_EXPIRY in COLLECTING (R68). -/
def endGapEvent (s : State) : State :=
  match s.lrn.session with
  | some x => if gapExpired x s then endGapExpires x s else s
  | none => s

end Sys2Proof.Machine
end

