-- ==== Sys2Proof/Machine/Library.lean ====
section
/-! DEFINITION. The Code Library: the phases of an operation (R19 to R28), what a cut leaves (R33), and mount (R34 to R37). -/

namespace Sys2Proof.Machine

/-! ### The operation in flight -/

/-- The state with another directory. -/
def setDirectory (d : List (Nat × DirEntry)) (s : State) : State := s.withLib { s.lib with directory := d }

/-- The state with another operation in flight, or none. -/
def setOp (op : Option LibOp) (s : State) : State := s.withLib { s.lib with op := op }

/-- An operation ends: none is in flight, and LIB_DONE is handed over (R28). -/
def endOp (op : LibOp) (fault : Bool) (s : State) : State :=
  notify (.libDone op.tag op.kind op.slot fault) (setOp none s)

/-- The numbers put back into the free set. -/
def freeSegments (free : List Nat) (segments : List Nat) : List Nat := segments.foldl (fun f n => insertAscending n f) free

/-- The bytes of segment `n` of a record, from 32(n − 1) onward (R16, R22). -/
def segmentBytes (bytes : List Byte) (n : Nat) : List Byte := (bytes.drop (32 * (n - 1))).take 32

/-- Segment `n` of `m` has been programmed and its read-back agrees: the next is programmed, or the commit begins (R22). -/
def segmentAgrees (op : LibOp) (n m : Nat) (s : State) : State :=
  let phase : LibPhase := if n < m then .programming (n + 1) m else .committing
  let due := op.due + if n < m then programTime else commitTime
  s.withLib
    { s.lib with
      pool := Table.set s.lib.pool (op.newChain.getD (n - 1) 0) (.programmed (segmentBytes op.bytes n))
      op := some { op with phase := phase, due := due } }

/-- The read-back of segment `k` disagrees: the segments after it return to the free set, and those up to it are released
(R23). -/
def segmentDisagrees (op : LibOp) (k : Nat) (s : State) : State :=
  s.withLib
    { s.lib with
      pool := Table.set s.lib.pool (op.newChain.getD (k - 1) 0) .spoiled
      free := freeSegments s.lib.free (op.newChain.drop k)
      op := some { op with newChain := op.newChain.take k, phase := .releasing 1 k, due := op.due + eraseTime } }

/-- SEGMENT_VERIFY at the end of a segment's 3 ms (R19, R22, R23). -/
def segmentVerifyEvent (agrees : Bool) (s : State) : State :=
  match s.lib.op with
  | none => s
  | some op =>
    match op.phase with
    | .programming n m =>
      if op.due ≤ s.now then if agrees then segmentAgrees op n m s else segmentDisagrees op n s else s
    | _ => s

/-- After the commit of a STORE or ERASE: the old chain is released, and without one the operation ends (R25, R26). -/
def releaseOldChain (op : LibOp) (old : List Nat) (s : State) : State :=
  if old = [] then endOp op false s
  else
    setOp (some { op with newChain := [], oldChain := old, phase := .releasing 1 old.length,
                          due := op.due + eraseTime }) s

/-- The chain of a slot, empty when the slot is EMPTY. -/
def chainOf (s : State) (slot : Nat) : List Nat :=
  match Table.get s.lib.directory slot with
  | some e => e.chain
  | none => []

/-- The news of a slot as now committed: its record and flags (R32). -/
def committedNews (s : State) (slot : Nat) : Option (Record × SlotFlags) :=
  (Table.get s.lib.directory slot).map fun e => (Record.ofWire (chainBytes s.lib e), e.flags)

/-- The directory entry that the commit of a STORE places (R22). -/
def LibOp.entry (op : LibOp) : DirEntry :=
  { flags := op.flags, size := op.bytes.length, chain := op.newChain, check := op.check }

/-- The directory after the commit of an operation (R24, R26, R27). -/
def LibOp.commits (op : LibOp) (d : List (Nat × DirEntry)) : List (Nat × DirEntry) :=
  match op.kind with
  | .store => Table.set d op.slot op.entry
  | .erase => Table.erase d op.slot
  | .setFlags =>
    match Table.get d op.slot with
    | some e => Table.set d op.slot { e with flags := op.flags }
    | none => d

/-- The change kind of an operation's commit news (R32). -/
def LibKind.news : LibKind → NewsKind
  | .store => .record
  | .erase => .empty
  | .setFlags => .flags

/-- COMMIT at the end of the 2 ms: the entry is replaced, the Recognizer takes the news, and the old chain is released or
the operation ends (R24 to R27, R32). -/
def commitEvent (s : State) : State :=
  match s.lib.op with
  | none => s
  | some op =>
    if op.phase = .committing ∧ op.due ≤ s.now then
      let old := chainOf s op.slot
      let s := setDirectory (op.commits s.lib.directory) s
      let s := commitNews op.kind.news op.slot (committedNews s op.slot) s
      match op.kind with
      | .setFlags => endOp op false s
      | .store | .erase => releaseOldChain op old s
    else s

/-- The segment being erased has been erased: it joins the free set (R23, R25). -/
def eraseSegment (n : Nat) (s : State) : State :=
  s.withLib { s.lib with pool := Table.erase s.lib.pool n, free := insertAscending n s.lib.free }

/-- The release goes on with the next segment, or ends the operation (R23, R25). -/
def releaseNext (op : LibOp) (n m : Nat) (fault : Bool) (s : State) : State :=
  if op.newChain = [] ∧ op.oldChain = [] then endOp op fault s
  else setOp (some { op with phase := .releasing (n + 1) m, due := op.due + eraseTime }) s

/-- SEGMENT_ERASED at the end of a segment's 2 ms; a new chain is released only after a verify failure (R23, R25). -/
def segmentErasedEvent (s : State) : State :=
  match s.lib.op with
  | none => s
  | some op =>
    match op.phase with
    | .releasing n m =>
      if op.due ≤ s.now then
        match op.newChain, op.oldChain with
        | seg :: rest, _ => releaseNext { op with newChain := rest } n m true (eraseSegment seg s)
        | [], seg :: rest => releaseNext { op with oldChain := rest } n m false (eraseSegment seg s)
        | [], [] => s
      else s
    | _ => s

/-! ### A cut (R33, R35, R36) -/

/-- The state with a segment left partly programmed or partly erased. -/
def spoil (n : Nat) (s : State) : State := s.withLib { s.lib with pool := Table.set s.lib.pool n .spoiled }

/-- The state with a free choice taken between a commit cut short and found old, or found new (log entry 2). -/
def commitCut (d : List (Nat × DirEntry)) (s : State) : State :=
  if Config.commitLanded s.draws then setDirectory d (countDraw s) else countDraw s

/-- What a cut leaves of the operation in flight (Table 3-5). -/
def cutOperation (s : State) : State :=
  match s.lib.op with
  | none => s
  | some op =>
    setOp none
      (match op.phase with
        | .programming n _ => spoil (op.newChain.getD (n - 1) 0) s
        | .committing => commitCut (op.commits s.lib.directory) s
        | .releasing _ _ =>
          match op.newChain, op.oldChain with
          | seg :: _, _ => spoil seg s
          | [], seg :: _ => spoil seg s
          | [], [] => s)

/-- What a cut leaves of a mount in progress: a repair lands or does not (R35), an erase leaves its segment not erased
(R36). -/
def cutMount (s : State) : State :=
  match s.lib.mount with
  | none => s
  | some m =>
    match m.stage with
    | .repairing (slot :: _) _ => commitCut (Table.erase s.lib.directory slot) s
    | .reclaiming (seg :: _) _ => spoil seg s
    | _ => s

/-- What a cut leaves of the library. -/
def cutLibrary (s : State) : State := cutMount (cutOperation s)

/-! ### Mount -/

/-- The number of library segments (R17). -/
def segmentCount : Nat := 640

/-- The state with another stage of its mount, and counts. -/
def setMount (stage : MountStage) (repaired reclaimed : Nat) (s : State) : State :=
  s.withLib { s.lib with mount := some { stage := stage, repaired := repaired, reclaimed := reclaimed } }

/-- Mount ends: the index is built, the SENSE context leaves OFF, the part is AWAKE, the link IDLE, and READY is handed
over (R37, R60, R81, R182). -/
def mountEnds (repaired reclaimed : Nat) (s : State) : State :=
  let s := s.withLib { s.lib with mount := none }
  let s := senseContextMounted (s.withRcg { s.rcg with index := buildIndex s.lib })
  let s := (s.withOpc { s.opc with state := .awake }).withLink { s.link with state := .idle }
  notify (.ready s.opc.cause repaired reclaimed) s

/-- The segments of every VALID chain. -/
def validSegments (l : Lib) : List Nat := l.directory.flatMap fun e => e.2.chain

/-- The segments outside every VALID chain that are not erased, in ascending number (R36). -/
def leftovers (l : Lib) : List Nat :=
  (l.pool.map (·.1)).filter fun n => decide (n < segmentCount) && !(validSegments l).contains n

/-- The erased segments outside every VALID chain, in ascending number (R36). -/
def erasedSegments (l : Lib) : List Nat :=
  (List.range segmentCount).filter fun n => (Table.get l.pool n).isNone && !(validSegments l).contains n

/-- The reclaim begins at a moment: erased segments outside every VALID chain join the free set, and the leftovers are
erased one after another; with none, mount ends (R36, R37). -/
def beginReclaim (moment repaired : Nat) (s : State) : State :=
  let s := s.withLib { s.lib with free := erasedSegments s.lib }
  match leftovers s.lib with
  | [] => mountEnds repaired 0 s
  | segs => setMount (.reclaiming segs (moment + eraseTime)) repaired 0 s

/-- The pool as the scan reads it, the decayed segments with other bytes than were left in them (R34; log entry 13). -/
def decay (decayed : List (Nat × List Byte)) (pool : List (Nat × Segment)) : List (Nat × Segment) :=
  decayed.foldl (fun p d => if d.1 < segmentCount then Table.set p d.1 (.programmed (d.2.take 32)) else p) pool

/-- The VALID slots whose check value differs from the one recomputed, in ascending order (R34). -/
def failedSlots (l : Lib) : List Nat :=
  (l.directory.filter fun e => e.2.check != Config.checkValue (chainBytes l e.2)).map (·.1)

/-- MOUNT_SCAN_COMPLETE (R34, R35). -/
def scanCompleteEvent (decayed : List (Nat × List Byte)) (s : State) : State :=
  match s.lib.mount with
  | some { stage := .scanning due, repaired := _, reclaimed := _ } =>
    if due ≤ s.now then
      let s := s.withLib { s.lib with pool := decay decayed s.lib.pool }
      match failedSlots s.lib with
      | [] => beginReclaim due 0 s
      | slots => setMount (.repairing slots (due + commitTime)) 0 0 s
    else s
  | _ => s

/-- MOUNT_REPAIR_COMMIT: the entry is committed EMPTY and counted (R35). -/
def repairCommitEvent (s : State) : State :=
  match s.lib.mount with
  | some { stage := .repairing (slot :: rest) due, repaired := n, reclaimed := _ } =>
    if due ≤ s.now then
      let s := setDirectory (Table.erase s.lib.directory slot) s
      match rest with
      | [] => beginReclaim due (n + 1) s
      | more => setMount (.repairing more (due + commitTime)) (n + 1) 0 s
    else s
  | _ => s

/-- MOUNT_RECLAIM_ERASE: the segment is erased, joins the free set and is counted (R36). -/
def reclaimEraseEvent (s : State) : State :=
  match s.lib.mount with
  | some { stage := .reclaiming (seg :: rest) due, repaired := n, reclaimed := k } =>
    if due ≤ s.now then
      let s := eraseSegment seg s
      match rest with
      | [] => mountEnds n (k + 1) s
      | more => setMount (.reclaiming more (due + eraseTime)) n (k + 1) s
    else s
  | _ => s

end Sys2Proof.Machine
end

