-- ==== Sys2Proof/Machine/Operating.lean ====
section
/-! DEFINITION. Operating Control: the resets (R182, R183), power loss (R33), standby entry (R185) and waking (R186, R187). -/

namespace Sys2Proof.Machine

/-- The port address of a strap sample (R156). -/
def portAddress (straps : Straps) : BitVec 7 := 0x3A + straps.setWidth 7

/-- Every block at its reset values, the library cut and its mount at a stage; the directory and the pool stay as the cut
leaves them (R182, R33, R38, R60, R79, R98, R123, R143, R155, R172). -/
def resetPart (cause : ResetCause) (address : BitVec 7) (stage : MountStage) (s : State) : State :=
  let s := cutLibrary s
  { now := 0, draws := s.draws,
    pins := { s.pins with lrelLowUntil := s.pins.lrelLowUntil - s.now },
    opc := Opc.reset cause, link := Link.reset address,
    lib := { directory := s.lib.directory, pool := s.lib.pool, free := [], op := none,
             mount := some { stage := stage, repaired := 0, reclaimed := 0 } },
    cap := { sense := Context.reset, learn := Context.reset, rxs := s.cap.rxs, rxl := s.cap.rxl },
    lrn := Lrn.reset, rcg := Rec.reset, routes := [], ems := Ems.reset, channels := PerEmitter.all Channel.reset,
    pending := s.pending }

/-- The state with other levels of supply and RSTN. -/
def setSupply (powered rstnLow : Bool) (s : State) : State :=
  s.withPins { s.pins with powered := powered, rstnLow := rstnLow }

/-- POWER_ON: the cause is POWER, the straps are sampled, and mount begins unless RSTN is low (R182, R156). -/
def powerOnEvent (straps : Straps) (s : State) : State :=
  setSupply true s.pins.rstnLow
    (resetPart .power (portAddress straps) (if s.pins.rstnLow then .notBegun else .scanning scanTime) s)

/-- RSTN_ASSERTED: the cause is PIN, the straps are sampled, and mount is not begun while RSTN is low; without supply only
the level changes (R182; log entry 14). -/
def rstnAssertedEvent (straps : Straps) (s : State) : State :=
  if s.pins.rstnLow then s
  else if s.pins.powered then setSupply true true (resetPart .pin (portAddress straps) .notBegun s)
  else setSupply false true s

/-- RSTN_RELEASED: mount begins with its scan (R182). -/
def rstnReleasedEvent (s : State) : State :=
  if s.pins.rstnLow then
    let t := setSupply s.pins.powered false s
    if s.pins.powered then setMount (.scanning (t.now + scanTime)) 0 0 t else t
  else s

/-- POWER_LOSS: the operation in flight is cut, every volatile state is lost, every output is off, the link is closed
(R33; log entry 14). -/
def powerLossEvent (s : State) : State :=
  if s.pins.powered then setSupply false s.pins.rstnLow (resetPart .power s.link.address .notBegun s) else s

/-- A taken RESET request: the cause is REQUEST and the port keeps its address (R183). -/
def resetRequest (s : State) : State := resetPart .request s.link.address (.scanning scanTime) s

/-- Entry to STANDBY: the link closes and nothing else is done (R185). -/
def enterStandby (s : State) : State :=
  (s.withOpc { s.opc with state := .standby }).withLink { s.link with state := .closed }

/-- The step that completes the five readiness conditions in STANDBY_PENDING enters STANDBY (R185).
DESIGN CHOICE (log entry 36): the five conditions alone are asked, so a raised pulse that R127 lets run on after its job may
still drive its output in STANDBY, where R185 and Table 12-2 say that no output is driven. -/
def settleStandby (s : State) : State :=
  if s.opc.state = .standbyPending ∧ readyForStandby s then enterStandby s else s

/-- STANDBY_ENTRY: the same test, for a step that does nothing else (R185; log entry 17). -/
def standbyEntryEvent (s : State) : State := settleStandby s

/-- WAKE_COMPLETION: AWAKE, the link IDLE, WAKE handed over, then the kept frames acted on (R186, R187). -/
def wakeCompletionEvent (s : State) : State :=
  match s.opc.state, s.opc.wake with
  | .waking, some cause =>
    if s.opc.wakeDue ≤ s.now then
      let s := (s.withOpc { s.opc with state := .awake, wake := none }).withLink { s.link with state := .idle }
      actOnKept (notify (.wake cause) s)
    else s
  | _, _ => s

/-! ### A command as a step -/

/-- A command: the time before it passes, its effect is made, and a standby entry that it completes is taken (R185; log
entry 5).  No command faults or is refused. -/
def event (dt : Nat) (f : State → State) (s : State) : Host.Outcome State Fault Refusal :=
  .next (settleStandby (f (advance dt s)))

end Sys2Proof.Machine
end

