-- ==== Sys2Proof/Machine/ExecCapture.lean ====
section
/-! DEFINITION. The meanings of the edges and timers of the capture contexts, the learn session and the press (R43 to R51, R65, R68, R91). -/

namespace Sys2Proof.Machine

/-- CANDIDATE_MARK_BEGINS (R43). -/
def execCandidateMarkBegins (dt : Nat) (input : Source) (s : State) : Host.Outcome State Fault Refusal :=
  event dt (riseEvent input) s

/-- GLITCH_LIMIT_REACHED (R44). -/
def execGlitchLimitReached (dt : Nat) (input : Source) (s : State) : Host.Outcome State Fault Refusal :=
  event dt (candidateEvent input) s

/-- MARK_ENDS (R44). -/
def execMarkEnds (dt : Nat) (input : Source) (s : State) : Host.Outcome State Fault Refusal :=
  event dt (fallEvent input) s

/-- ENVELOPE_MARK_END (R51). -/
def execEnvelopeMarkEnd (dt : Nat) (s : State) : Host.Outcome State Fault Refusal := event dt envelopeEvent s

/-- FRAME_GAP_REACHED (R46). -/
def execFrameGapReached (dt : Nat) (input : Source) (s : State) : Host.Outcome State Fault Refusal :=
  event dt (gapEvent input) s

/-- LONG_MARK (R49). -/
def execLongMark (dt : Nat) (input : Source) (s : State) : Host.Outcome State Fault Refusal :=
  event dt (longEvent input) s

/-- SETTLING_DONE (R50). -/
def execSettlingDone (dt : Nat) (input : Source) (s : State) : Host.Outcome State Fault Refusal :=
  event dt (settledEvent input) s

/-- WINDOW_EXPIRY (R65). -/
def execWindowExpiry (dt : Nat) (s : State) : Host.Outcome State Fault Refusal := event dt windowEvent s

/-- END_GAP_EXPIRY (R68). -/
def execEndGapExpiry (dt : Nat) (s : State) : Host.Outcome State Fault Refusal := event dt endGapEvent s

/-- RELEASE_TIMER_EXPIRY (R91). -/
def execReleaseTimerExpiry (dt : Nat) (s : State) : Host.Outcome State Fault Refusal := event dt releaseTimerEvent s

end Sys2Proof.Machine
end

