-- ==== Sys2Proof/Machine/ExecEmission.lean ====
section
/-! DEFINITION. The meanings of the time lines of jobs and the drive of the emitters (R126 to R141). -/

namespace Sys2Proof.Machine

/-- FRAME_START (R126). -/
def execFrameStart (dt : Nat) (job : Nat) (s : State) : Host.Outcome State Fault Refusal :=
  event dt (frameStartEvent job) s

/-- ELEMENT_END (R127). -/
def execElementEnd (dt : Nat) (job : Nat) (s : State) : Host.Outcome State Fault Refusal :=
  event dt (elementEndEvent job) s

/-- FRAME_END (R128). -/
def execFrameEnd (dt : Nat) (job : Nat) (s : State) : Host.Outcome State Fault Refusal := event dt (frameEndEvent job) s

/-- PAUSE_END (R132). -/
def execPauseEnd (dt : Nat) (job : Nat) (s : State) : Host.Outcome State Fault Refusal := event dt (pauseEndEvent job) s

/-- SEND_STEP_START (R133). -/
def execSendStepStart (dt : Nat) (job : Nat) (s : State) : Host.Outcome State Fault Refusal :=
  event dt (sendStepStartEvent job) s

/-- HOLD_DEADLINE_EXPIRY (R131). -/
def execHoldDeadlineExpiry (dt : Nat) (job : Nat) (s : State) : Host.Outcome State Fault Refusal :=
  event dt (holdDeadlineEvent job) s

/-- OPEN_WINDOW_CLOSE (R136). -/
def execOpenWindowClose (dt : Nat) (emitter : Emitter) (s : State) : Host.Outcome State Fault Refusal :=
  event dt (openWindowCloseEvent emitter) s

/-- OVERCURRENT (R137). -/
def execOvercurrent (dt : Nat) (emitter : Emitter) (s : State) : Host.Outcome State Fault Refusal :=
  event dt (overcurrentEvent emitter) s

/-- MASK_WINDOW_CLOSE (R141). -/
def execMaskWindowClose (dt : Nat) (emitter : Emitter) (s : State) : Host.Outcome State Fault Refusal :=
  event dt (maskWindowCloseEvent emitter) s

/-- CARRIER_PULSE_EDGE (R127). -/
def execCarrierPulseEdge (dt : Nat) (emitter : Emitter) (s : State) : Host.Outcome State Fault Refusal :=
  event dt (pulseEdgeEvent emitter) s

end Sys2Proof.Machine
end

