-- ==== Sys2Proof/Machine/ExecLibrary.lean ====
section
/-! DEFINITION. The meanings of mount and the phases of a library operation (R19 to R37). -/

namespace Sys2Proof.Machine

/-- MOUNT_SCAN_COMPLETE (R34). -/
def execMountScanComplete (dt : Nat) (decayed : List (Nat × List Byte))
    (s : State) : Host.Outcome State Fault Refusal :=
  event dt (scanCompleteEvent decayed) s

/-- MOUNT_REPAIR_COMMIT (R35). -/
def execMountRepairCommit (dt : Nat) (s : State) : Host.Outcome State Fault Refusal := event dt repairCommitEvent s

/-- MOUNT_RECLAIM_ERASE (R36). -/
def execMountReclaimErase (dt : Nat) (s : State) : Host.Outcome State Fault Refusal := event dt reclaimEraseEvent s

/-- SEGMENT_VERIFY (R22). -/
def execSegmentVerify (dt : Nat) (agrees : Bool) (s : State) : Host.Outcome State Fault Refusal :=
  event dt (segmentVerifyEvent agrees) s

/-- COMMIT (R24). -/
def execCommit (dt : Nat) (s : State) : Host.Outcome State Fault Refusal := event dt commitEvent s

/-- SEGMENT_ERASED (R25). -/
def execSegmentErased (dt : Nat) (s : State) : Host.Outcome State Fault Refusal := event dt segmentErasedEvent s

end Sys2Proof.Machine
end

