-- ==== Sys2Proof/Machine/Requests.lean ====
section
/-! DEFINITION. The requests as their owning blocks take them: the checks of each, in their order, its reply, and its effect
(Tables 11-8 and 11-9).  The reply joins the queue before anything the effect raises (R161). -/

namespace Sys2Proof.Machine

/-! ### Operating Control -/

/-- A request other than STANDBY returns a pending standby to AWAKE (R184). -/
def returnToAwake (s : State) : State :=
  if s.opc.state = .standbyPending then s.withOpc { s.opc with state := .awake } else s

/-- The four bytes of one emitter in the status summary (Table 11-10). -/
def emitterStatus (s : State) (e : Emitter) : List Byte :=
  [(channelState s e).code, (s.channels.get e).mode.faultCode, byte (s.ems.queues.get e).length,
    byte ((headOf s e).getD 0)]

/-- Library phase code, n and m (Tables 11-6 and 11-10). -/
def LibPhase.bytes : LibPhase → List Byte
  | .programming n m => [0x01, byte n, byte m]
  | .committing => [0x02, 0x00, 0x00]
  | .releasing n m => [0x03, byte n, byte m]

/-- The five bytes of the library operation in the status summary. -/
def opStatus : Option LibOp → List Byte
  | none => [0x00, 0xFF, 0x00, 0x00, 0x00]
  | some op => [op.kind.code, byte op.slot] ++ op.phase.bytes

/-- The learn state code (Table 11-6). -/
def learnStatus : Option Session → Byte
  | none => 0x00
  | some x =>
    match x.state with
    | .waitingFirst => 0x01
    | .collecting => 0x02

/-- The press state, slot and hold count of the status summary. -/
def pressStatus : Option Press → List Byte
  | none => [0x00, 0xFF, 0x00, 0x00]
  | some p => [0x01, byte p.slot] ++ word p.count

/-- The status summary of Table 11-10, the operating state as the request found it (R190). -/
def statusSummary (found : OpState) (s : State) : List Byte :=
  [found.code] ++ emitters.flatMap (emitterStatus s) ++ [byte s.ems.jobs.length] ++ word s.lib.free.length ++
    [byte s.lib.directory.length] ++ opStatus s.lib.op ++
    [learnStatus s.lrn.session, if s.lrn.staged.isSome then 0x01 else 0x00] ++ pressStatus s.rcg.press ++
    [byte s.link.queue.length] ++ word (queueBytes s.link.queue) ++ [byte s.link.missed]

/-- GET_STATUS (R190). -/
def ownGetStatus (found : OpState) (tag : Byte) (s : State) : State := reply tag .ok (statusSummary found s) s

/-- One pair of a CONFIGURE applied: the parameter takes the value, and a change of SENSE_ENABLE acts on the SENSE context
at once (R57, R188). -/
def applyPair (s : State) (pair : Nat × Nat) : State :=
  let t := s.withOpc { s.opc with params := s.opc.params.update pair.1 pair.2 }
  if s.opc.params.senseEnable = 1 ∧ t.opc.params.senseEnable = 0 then discarding .sense (ctxOff .sense) t
  else if s.opc.params.senseEnable = 0 ∧ t.opc.params.senseEnable = 1 then senseContextEnabled t
  else t

/-- CONFIGURE (R174, R188). -/
def ownConfigure (tag : Byte) (p : List Byte) (s : State) : State :=
  if !payloadAgrees .configure p then replyStatus tag .badLength s
  else
    match (configPairs p).findIdx? fun x => !paramOk x.1 x.2 with
    | some i => reply tag .badArgument [byte i] s
    | none => (configPairs p).foldl applyPair (replyStatus tag .ok s)

/-- The triple of a parameter id: the id and its current value (R189). -/
def configTriple (params : Params) (id : Byte) : List Byte := id :: word ((params.value id.toNat).getD 0)

/-- READ_CONFIG (R189). -/
def ownReadConfig (tag : Byte) (p : List Byte) (s : State) : State :=
  match p.findIdx? fun id => (paramRange id.toNat).isNone with
  | some i => reply tag .badArgument [byte i] s
  | none => reply tag .ok (p.flatMap (configTriple s.opc.params)) s

/-- STANDBY (R184). -/
def ownStandby (tag : Byte) (s : State) : State :=
  let s := replyStatus tag .ok s
  s.withOpc { s.opc with state := .standbyPending }

/-! ### The Learn Unit -/

/-- The learn source with a code (Table 11-6). -/
def sourceOfCode (b : Byte) : Option Source := if b = 0x00 then some .learn else if b = 0x01 then some .sense else none

/-- A session begins: the staged record becomes EMPTY and the source is attached (R62). -/
def beginSession (source : Source) (window hint : Nat) (tag : Byte) (s : State) : State :=
  let length := if window = 0 then s.opc.params.learnWindow else window
  let x : Session :=
    { state := .waitingFirst, source := source, hint := hint, start := timeBase s, tag := tag,
      windowDue := some (s.now + sec length), gapExpiry := none, closing := false, frames := [], measurement := none }
  let s := s.withLrn { session := some x, staged := none }
  match source with
  | .learn => learnContextStarts s
  | .sense => s

/-- LEARN_START (R62). -/
def ownLearnStart (tag : Byte) (p : List Byte) (s : State) : State :=
  match sourceOfCode (byteAt p 0) with
  | none => replyStatus tag .badArgument s
  | some source =>
    if (byteAt p 1).toNat ≤ 60 ∧ carrierOk (wordAt p 2) then
      if s.lrn.session.isSome then replyStatus tag .learnActive s
      else beginSession source (byteAt p 1).toNat (wordAt p 2) tag (replyStatus tag .ok s)
    else replyStatus tag .badArgument s

/-- LEARN_STOP (R63). -/
def ownLearnStop (tag : Byte) (s : State) : State :=
  match s.lrn.session with
  | none => replyStatus tag .wrongState s
  | some x =>
    match x.state with
    | .waitingFirst => failSession x .stopped 0 (replyStatus tag .ok s)
    | .collecting => reduceSession x (replyStatus tag .ok s)

/-- READ_STAGED (R64, Table 11-9). -/
def ownReadStaged (tag : Byte) (s : State) : State :=
  match s.lrn.staged with
  | some r => reply tag .ok ([0xFF, 0x00] ++ r.wire) s
  | none => replyStatus tag .noStaged s

/-! ### The Code Library -/

/-- The number of directory slots (R15). -/
def slotCount : Nat := 128

/-- The staged record with the overrides of a STORE payload applied (R5, R175). -/
def withOverrides (r : Record) (p : List Byte) : Record :=
  { r with
    interval := if (byteAt p 3).getLsbD 0 then wordAt p 4 else r.interval
    minFrames := if (byteAt p 3).getLsbD 1 then (byteAt p 6).toNat else r.minFrames
    label := if (byteAt p 3).getLsbD 2 then (p.drop 8).take (byteAt p 7).toNat else r.label }

/-- The overrides of a STORE are well formed: none with INLINE, and no bit above the third with STAGED (R175). -/
def overridesOk (p : List Byte) : Bool :=
  if byteAt p 2 = 0x00 then byteAt p 3 == 0 else byteAt p 2 == 0x01 && decide ((byteAt p 3).toNat < 8)

/-- The record a STORE names, or the refusal of rows 1 to 3 of Table 3-3 with its further reply bytes, and its flags. -/
def storeSource (s : State) (p : List Byte) : Except (Status × List Byte) (SlotFlags × Record) :=
  match SlotFlags.ofByte (byteAt p 1) with
  | none => .error (.badArgument, [])
  | some flags =>
    if (byteAt p 0).toNat < slotCount ∧ overridesOk p then
      let named : Option Record :=
        if byteAt p 2 = 0x00 then some (Record.ofWire (p.drop 4)) else s.lrn.staged.map fun r => withOverrides r p
      match named with
      | none => .error (.noStaged, [])
      | some r =>
        match recordFault r with
        | some (field, item) => .error (.badRecord, [byte field, byte item])
        | none => .ok (flags, r)
    else .error (.badArgument, [])

/-- An accepted STORE: the lowest free segments leave the free set as the new chain, and PROGRAMMING begins (R21). -/
def beginStore (slot : Nat) (flags : SlotFlags) (r : Record) (tag : Byte) (s : State) : State :=
  let m := storedSize r.wireSize
  s.withLib
    { s.lib with
      free := s.lib.free.drop m
      op := some { kind := .store, slot := slot, newChain := s.lib.free.take m, oldChain := [], phase := .programming 1 m,
                   tag := tag, flags := flags, bytes := r.wire, check := Config.checkValue r.wire,
                   due := s.now + programTime } }

/-- STORE (R20, R21, R174). -/
def ownStore (tag : Byte) (p : List Byte) (s : State) : State :=
  if !payloadAgrees .store p then replyStatus tag .badLength s
  else
    match storeSource s p with
    | .error (status, more) => reply tag status more s
    | .ok (flags, r) =>
      if s.lib.op.isSome then replyStatus tag .libBusy s
      else if s.lib.free.length < storedSize r.wireSize then replyStatus tag .noSpace s
      else beginStore (byteAt p 0).toNat flags r tag (replyStatus tag .accepted s)

/-- An operation that begins with its commit (R26, R27). -/
def beginCommit (kind : LibKind) (slot : Nat) (flags : SlotFlags) (tag : Byte) (s : State) : State :=
  setOp (some { kind := kind, slot := slot, newChain := [], oldChain := [], phase := .committing, tag := tag, flags := flags,
                bytes := [], check := 0, due := s.now + commitTime }) s

/-- The refusal of an ERASE or SET_CODE_FLAGS after its argument checks (R26, R27). -/
def changeRefusal (s : State) (slot : Nat) : Option Status :=
  if s.lib.op.isSome then some .libBusy
  else if (Table.get s.lib.directory slot).isNone then some .noCode
  else none

/-- ERASE (R26). -/
def ownErase (tag : Byte) (p : List Byte) (s : State) : State :=
  let slot := (byteAt p 0).toNat
  if slot < slotCount then
    match changeRefusal s slot with
    | some st => replyStatus tag st s
    | none => beginCommit .erase slot SlotFlags.clear tag (replyStatus tag .accepted s)
  else replyStatus tag .badArgument s

/-- SET_CODE_FLAGS (R27). -/
def ownSetCodeFlags (tag : Byte) (p : List Byte) (s : State) : State :=
  let slot := (byteAt p 0).toNat
  match SlotFlags.ofByte (byteAt p 1) with
  | none => replyStatus tag .badArgument s
  | some flags =>
    if slot < slotCount then
      match changeRefusal s slot with
      | some st => replyStatus tag st s
      | none => beginCommit .setFlags slot flags tag (replyStatus tag .accepted s)
    else replyStatus tag .badArgument s

/-- READ_CODE (R29, Table 11-9). -/
def ownReadCode (tag : Byte) (p : List Byte) (s : State) : State :=
  if (byteAt p 0).toNat < slotCount then
    match Table.get s.lib.directory (byteAt p 0).toNat with
    | none => replyStatus tag .noCode s
    | some e => reply tag .ok ([byteAt p 0, e.flags.toByte] ++ chainBytes s.lib e) s
  else replyStatus tag .badArgument s

/-- The ten bytes of a slot's summary (R30, Table 11-9). -/
def slotSummary (l : Lib) (slot : Nat) : List Byte :=
  match Table.get l.directory slot with
  | none => [byte slot, 0x00, 0x00, 0x00, 0x00, 0x00, 0x00, 0x00, 0x00, 0x00]
  | some e =>
    let r := Record.ofWire (chainBytes l e)
    [byte slot, 0x01, e.flags.toByte] ++ word e.size ++ word r.carrier ++
      [byte r.body.length, byte r.later.length, byte r.classes.length]

/-- The slots a LIST_CODES reports: from the first, as many as asked, up to slot 127 (R30). -/
def listedSlots (first count : Nat) : List Nat := (List.range (min count (slotCount - first))).map fun i => first + i

/-- LIST_CODES (R30). -/
def ownListCodes (tag : Byte) (p : List Byte) (s : State) : State :=
  let first := (byteAt p 0).toNat
  let count := (byteAt p 1).toNat
  if first < slotCount ∧ 1 ≤ count ∧ count ≤ 29 then
    let slots := listedSlots first count
    reply tag .ok (byte slots.length :: slots.flatMap (slotSummary s.lib)) s
  else replyStatus tag .badArgument s

/-! ### The Emission Scheduler -/

/-- A job asked for by the host after its argument checks: refused, or admitted with the reply ACCEPTED and its id, and the
queues examined (R106, R107). -/
def admitHostJob (tag : Byte) (mask : Mask) (kind : JobKind) (s : State) : State :=
  match admissionRefusal s mask with
  | some st => replyStatus tag st s
  | none => examine (reply tag .accepted [byte (nextId s.ems)] (admitJob (.host tag) kind mask true s))

/-- SEND (R106, R107). -/
def ownSend (tag : Byte) (p : List Byte) (s : State) : State :=
  match maskField (byteAt p 0) with
  | none => replyStatus tag .badArgument s
  | some mask =>
    if (byteAt p 1).toNat < slotCount ∧ 1 ≤ (byteAt p 2).toNat then
      admitHostJob tag mask (.send (byteAt p 1).toNat (byteAt p 2).toNat) s
    else replyStatus tag .badArgument s

/-- HOLD (R100, R106, R107). -/
def ownHold (tag : Byte) (p : List Byte) (s : State) : State :=
  match maskField (byteAt p 0) with
  | none => replyStatus tag .badArgument s
  | some mask =>
    if (byteAt p 1).toNat < slotCount ∧ (byteAt p 2).toNat ≤ 120 then
      admitHostJob tag mask (.hold (byteAt p 1).toNat (resolveLimit s (byteAt p 2).toNat)) s
    else replyStatus tag .badArgument s

/-- SEQUENCE (R106, R107, R174). -/
def ownSequence (tag : Byte) (p : List Byte) (s : State) : State :=
  if !payloadAgrees .sequence p then replyStatus tag .badLength s
  else
    match maskField (byteAt p 0), sequenceSteps (p.drop 1) with
    | some mask, some steps => admitHostJob tag mask (.sequence steps) s
    | _, _ => replyStatus tag .badArgument s

/-- RELEASE (R115). -/
def ownRelease (tag : Byte) (p : List Byte) (s : State) : State :=
  let id := (byteAt p 0).toNat
  match releaseAnswer s id with
  | .ok => examine (releaseJob id (replyStatus tag .ok s))
  | st => replyStatus tag st s

/-- CANCEL (R114). -/
def ownCancel (tag : Byte) (p : List Byte) (s : State) : State :=
  let id := (byteAt p 0).toNat
  match cancelAnswer s id with
  | .ok => examine (cancelJob id (replyStatus tag .ok s))
  | st => replyStatus tag st s

/-- FLUSH (R116). -/
def ownFlush (tag : Byte) (p : List Byte) (s : State) : State :=
  match maskField (byteAt p 0) with
  | none => replyStatus tag .badArgument s
  | some mask =>
    let ids := flushTargets s mask
    examine (ids.foldl (fun t id => cancelJob id t) (reply tag .ok [byte ids.length] s))

/-- The position of a job in the queue of an emitter, FFh outside its mask (Table 11-11). -/
def positionByte (s : State) (j : Job) (e : Emitter) : Byte :=
  if hasEmitter j.mask e then
    match (s.ems.queues.get e).findIdx? fun id => id == j.id with
    | some n => byte n
    | none => 0xFF
  else 0xFF

/-- The end reason of a live job, FFh unless it is ENDING (Table 11-11). -/
def reasonByte : JobState → Byte
  | .ending why => why.code
  | _ => 0xFF

/-- The current step of a live job: 0 for SEND and HOLD, free for a SEQUENCE not yet activated (Table 11-11, R109; log
entry 18). -/
def stepByte (s : State) (j : Job) : Byte :=
  match j.kind, j.state with
  | .sequence _, .queued => byte ((Config.queuedStep j.id s.now).val + 1)
  | .sequence _, _ => byte j.step
  | _, _ => 0x00

/-- The JOB_STATUS bytes of a live job (Table 11-11). -/
def liveStatus (s : State) (j : Job) : List Byte :=
  [j.state.code, j.kind.code] ++ j.origin.bytes ++ [j.mask.setWidth 8, reasonByte j.state] ++ word j.framesSent ++
    [stepByte s j] ++ emitters.map (positionByte s j)

/-- The JOB_STATUS bytes of an ended job (Table 11-11). -/
def endedStatus (r : Ended) : List Byte :=
  [0x03, 0x00, 0x00, 0x00, 0x00, r.outcome.code] ++ word r.framesSent ++ [0x00, 0xFF, 0xFF, 0xFF, 0xFF]

/-- JOB_STATUS (R117). -/
def ownJobStatus (tag : Byte) (p : List Byte) (s : State) : State :=
  match findJob s (byteAt p 0).toNat with
  | some j => reply tag .ok (liveStatus s j) s
  | none =>
    match findEnded s (byteAt p 0).toNat with
    | some r => reply tag .ok (endedStatus r) s
    | none => replyStatus tag .notFound s

/-! ### Emitter control (Table 7-5) -/

/-- DISABLE (R118). -/
def disableEmitter (tag : Byte) (e : Emitter) (s : State) : State :=
  match channelState s e with
  | .idle | .waiting =>
    let s := failQueued e .failedOff (replyStatus tag .ok s)
    examine (updateChannel s e fun c => { c with mode := .off })
  | .busy => replyStatus tag .busy s
  | .off => replyStatus tag .ok s
  | .fault => replyStatus tag .wrongState s

/-- ENABLE (R118). -/
def enableEmitter (tag : Byte) (e : Emitter) (s : State) : State :=
  match (s.channels.get e).mode with
  | .off => updateChannel (replyStatus tag .ok s) e fun c => { c with mode := .on }
  | .on => replyStatus tag .ok s
  | .fault _ => replyStatus tag .wrongState s

/-- CLEAR_FAULT: the channel follows its queue again; a job still ending on other emitters leaves it STOPPED (R119, R135). -/
def clearFaultOf (tag : Byte) (e : Emitter) (s : State) : State :=
  match (s.channels.get e).mode with
  | .fault _ =>
    updateChannel (replyStatus tag .ok s) e fun c => { c with mode := .on, stopped := !(s.ems.queues.get e).isEmpty }
  | _ => replyStatus tag .wrongState s

/-- NEAR_ON and NEAR_OFF (R119, R140). -/
def setNear (near : Bool) (tag : Byte) (e : Emitter) (s : State) : State :=
  updateChannel (replyStatus tag .ok s) e fun c => { c with near := near }

/-- EMITTER_CONTROL: the emitter and the action are checked, then the action is taken whole (Section 7.8). -/
def ownEmitterControl (tag : Byte) (p : List Byte) (s : State) : State :=
  match emitterOfNumber (byteAt p 0).toNat with
  | none => replyStatus tag .badArgument s
  | some e =>
    match (byteAt p 1).toNat with
    | 0x00 => disableEmitter tag e s
    | 0x01 => enableEmitter tag e s
    | 0x02 => clearFaultOf tag e s
    | 0x03 => setNear true tag e s
    | 0x04 => setNear false tag e s
    | _ => replyStatus tag .badArgument s

/-! ### The Route Table -/

/-- The report field of a ROUTE_SET (Table 11-6). -/
def reportOfCode (b : Byte) : Option Bool := if b = 0x00 then some false else if b = 0x01 then some true else none

/-- The entry a ROUTE_SET payload describes, none where a check fails; the field its action does not use is not checked and
is stored as 0 (R145). -/
def routeOf (p : List Byte) : Option Route :=
  let source := (byteAt p 1).toNat
  let target := (byteAt p 4).toNat
  let frames := (byteAt p 6).toNat
  let limit := (byteAt p 7).toNat
  match Trigger.ofCode (byteAt p 2), RouteAction.ofCode (byteAt p 3), maskField (byteAt p 5), reportOfCode (byteAt p 8) with
  | some trigger, some action, some mask, some report =>
    if (byteAt p 0).toNat < routeCount ∧ source < slotCount ∧ target < slotCount ∧ source ≠ target then
      match action with
      | .send =>
        if 1 ≤ frames then
          some { source := source, trigger := trigger, action := .send, target := target, mask := mask, frames := frames,
                 holdLimit := 0, report := report, link := none }
        else none
      | .mirror =>
        if trigger = .pressed ∧ limit ≤ 120 then
          some { source := source, trigger := .pressed, action := .mirror, target := target, mask := mask, frames := 0,
                 holdLimit := limit, report := report, link := none }
        else none
    else none
  | _, _, _, _ => none

/-- The state with a route entry SET. -/
def setRoute (i : Nat) (r : Route) (s : State) : State := s.withRoutes (Table.set s.routes i r)

/-- ROUTE_SET (R145). -/
def ownRouteSet (tag : Byte) (p : List Byte) (s : State) : State :=
  match routeOf p with
  | none => replyStatus tag .badArgument s
  | some r => setRoute (byteAt p 0).toNat r (routeRelease (byteAt p 0).toNat (replyStatus tag .ok s))

/-- The state with a route entry EMPTY. -/
def eraseRoute (i : Nat) (s : State) : State := s.withRoutes (Table.erase s.routes i)

/-- ROUTE_CLEAR (R146). -/
def ownRouteClear (tag : Byte) (p : List Byte) (s : State) : State :=
  if (byteAt p 0).toNat < routeCount then
    eraseRoute (byteAt p 0).toNat (routeRelease (byteAt p 0).toNat (replyStatus tag .ok s))
  else replyStatus tag .badArgument s

/-- The reply bytes of a route entry (Table 11-9). -/
def routeBytes (i : Nat) : Option Route → List Byte
  | none => [byte i, 0x00, 0x00, 0x00, 0x00, 0x00, 0x00, 0x00, 0x00, 0x00, 0x00]
  | some r =>
    [byte i, 0x01, byte r.source, r.trigger.code, r.action.code, byte r.target, r.mask.setWidth 8, byte r.frames,
      byte r.holdLimit, if r.report then 0x01 else 0x00, byte (r.link.getD 0)]

/-- ROUTE_READ (R146). -/
def ownRouteRead (tag : Byte) (p : List Byte) (s : State) : State :=
  if (byteAt p 0).toNat < routeCount then
    reply tag .ok (routeBytes (byteAt p 0).toNat (Table.get s.routes (byteAt p 0).toNat)) s
  else replyStatus tag .badArgument s

/-! ### Taking a frame (R161) -/

/-- A good frame is passed to its owning block, `found` being the operating state it was found in. -/
def own (found : OpState) (kind : ReqKind) (tag : Byte) (p : List Byte) (s : State) : State :=
  match kind with
  | .getStatus => ownGetStatus found tag s
  | .configure => ownConfigure tag p s
  | .readConfig => ownReadConfig tag p s
  | .standby => ownStandby tag s
  | .reset => resetRequest s
  | .learnStart => ownLearnStart tag p s
  | .learnStop => ownLearnStop tag s
  | .readStaged => ownReadStaged tag s
  | .store => ownStore tag p s
  | .erase => ownErase tag p s
  | .setCodeFlags => ownSetCodeFlags tag p s
  | .readCode => ownReadCode tag p s
  | .listCodes => ownListCodes tag p s
  | .send => ownSend tag p s
  | .hold => ownHold tag p s
  | .sequence => ownSequence tag p s
  | .release => ownRelease tag p s
  | .cancel => ownCancel tag p s
  | .flush => ownFlush tag p s
  | .jobStatus => ownJobStatus tag p s
  | .emitterControl => ownEmitterControl tag p s
  | .routeSet => ownRouteSet tag p s
  | .routeClear => ownRouteClear tag p s
  | .routeRead => ownRouteRead tag p s

/-- A checked frame is taken: a rejected one is answered by the link, a good one by its owner (R160, R161, R184). -/
def take (f : CheckedFrame) (s : State) : State :=
  match f with
  | .rejected tag status => replyStatus tag status s
  | .good kind tag p => own s.opc.state kind tag p (if kind = .standby then s else returnToAwake s)

end Sys2Proof.Machine
end

