-- ==== Sys2Proof/Machine/HostLink.lean ====
section
/-! DEFINITION. The Host Link: transactions on the port (R156 to R160, R165 to R167), taking and holding frames (R161,
R162), link release (R169). -/

namespace Sys2Proof.Machine

/-- The state with another acknowledge of the byte just seen. -/
def setAck (acked : Bool) (s : State) : State := s.withPins { s.pins with acked := acked }

/-- The state with the byte just sent to the host. -/
def setSent (b : Byte) (s : State) : State := s.withPins { s.pins with sent := b }

/-! ### Taking and holding (R161, R162) -/

/-- The reply of a frame fits the free bytes and places of the queue (R161). -/
def Link.fits (l : Link) (f : CheckedFrame) : Bool :=
  decide (f.replySize ≤ l.freeBytes) && (decide (f.replySize = 0) || decide (1 ≤ l.freePlaces))

/-- A frame becomes pending with its reservation opened (R162). -/
def Link.hold (l : Link) (f : CheckedFrame) : Link :=
  { l with
    state := .pending
    held := some { frame := f, size := f.replySize, bytes := min f.replySize l.freeBytes,
                   place := decide (l.queue.length < maxMessages) } }

/-- A checked frame at the end of its write: taken in this step, or held pending (R161, R162). -/
def arrive (f : CheckedFrame) (s : State) : State :=
  if s.link.fits f then take f (s.withLink { s.link with state := .idle, inbound := [] })
  else s.withLink (s.link.hold f)

/-- The reservation holds the whole reply size and a place (R162). -/
def Held.complete (h : Held) : Bool := decide (h.size ≤ h.bytes) && h.place

/-- The pending frame is taken once its reservation is complete, and the reservation released; outside a read the link
leaves PENDING (R162). -/
def takePending (s : State) : State :=
  match s.link.held with
  | none => s
  | some h =>
    if h.complete = true ∧ (s.link.state = .pending ∨ s.link.state = .sending) then
      take h.frame
        (s.withLink { s.link with
          held := none, inbound := []
          state := if s.link.state = .pending then .idle else s.link.state })
    else s

/-- A reservation takes the bytes and the place that a removed message frees (R162). -/
def Held.grow (h : Held) (freed : Nat) : Held := { h with bytes := min h.size (h.bytes + freed), place := true }

/-- The head message leaves the queue, its space going first to a reservation (R162, R165). -/
def Link.dropHead (l : Link) (m : Message) : Link :=
  { l with queue := l.queue.tail, readPos := 0, held := l.held.map fun h => h.grow m.size }

/-- The host's acknowledge in a read asks for a further byte: where the queue holds no message and no EMPTY frame is in
progress, one begins (R165, R166). -/
def Link.asked (l : Link) : Link :=
  if l.state = .sending ∧ l.emptyPos = none ∧ l.queue = [] then { l with emptyPos := some 0 } else l

/-- A read begins at the first byte of the head message (R158, R167), or of an EMPTY frame, as the queue stands when that byte
is sent (R166; DEDUCED, log entry 39). -/
def Link.beginRead (l : Link) : Link := { l with state := .sending, readPos := 0, emptyPos := none, handedOff := false }

/-! ### The ends of transactions -/

/-- The end of a write (R160). -/
def endWrite (s : State) : State :=
  if s.link.inbound.length < 5 then s.withLink { s.link with state := .idle, inbound := [] }
  else arrive (checkFrame s.link.inbound) s

/-- The end of a read: the head message rewinds (R167). -/
def endRead (s : State) : State :=
  s.withLink { s.link with
    state := if s.link.held.isSome then .pending else .idle
    readPos := 0, emptyPos := none, handedOff := false }

/-- WRITE_END of a write in progress (R160). -/
def writeEndEvent (s : State) : State := if s.link.state = .receiving then endWrite s else s

/-- READ_END of a read in progress (R167). -/
def readEndEvent (s : State) : State := if s.link.state = .sending then endRead s else s

/-- A repeated start ends the transaction in progress, and the standby entry that this end completes is taken, before the
next address byte is judged (R156, R185). -/
def endTransaction (s : State) : State := settleStandby (readEndEvent (writeEndEvent s))

/-! ### Address bytes (R158) -/

/-- LREL is still low after a link release (R169). -/
def lrelLow (s : State) : Bool := decide (s.now < s.pins.lrelLowUntil)

/-- The port's address is judged by the link state (Table 10-2, R169). -/
def judgeAddress (read : Bool) (s : State) : State :=
  match s.link.state with
  | .closed => setAck false (if s.opc.state = .standby then beginWake .link s else s)
  | .idle =>
    if lrelLow s then setAck false s
    else if read then setAck true (s.withLink s.link.beginRead)
    else setAck true (s.withLink { s.link with state := .receiving, inbound := [] })
  | .pending =>
    if lrelLow s || !read then setAck false s
    else setAck true (s.withLink s.link.beginRead)
  | .receiving | .sending => setAck false s

/-- ADDRESS_BYTE: a start, which ends any transaction in progress, and an address; another address is not acknowledged
(R156, R158). -/
def addressEvent (address : BitVec 7) (read : Bool) (s : State) : State :=
  let s := endTransaction s
  if address = s.link.address then judgeAddress read s else setAck false s

/-! ### Data bytes -/

/-- The most bytes a write stores (R159). -/
def maxInbound : Nat := 305

/-- DATA_BYTE_WRITTEN: stored and acknowledged up to the 305th byte of a write, refused otherwise (R159). -/
def dataByteEvent (b : Byte) (s : State) : State :=
  if s.link.state = .receiving ∧ s.link.inbound.length < maxInbound then
    setAck true (s.withLink { s.link with inbound := s.link.inbound ++ [b] })
  else setAck false s

/-- The host's acknowledge asks for a further byte; its absence ends the reading (R165). -/
def handOff (acked : Bool) (s : State) : State :=
  if acked then (setAck true s).withLink s.link.asked else (setAck false s).withLink { s.link with handedOff := true }

/-- The number of EMPTY-frame bytes already sent of the frame in progress; none where a message's byte is next (R166).
An EMPTY frame begins where the host's acknowledge asks for its first byte (`Link.asked`), and at the first byte of a read
where that byte is sent (DEDUCED, log entry 39). -/
def emptyNext (l : Link) : Option Nat :=
  match l.emptyPos with
  | some k => some k
  | none => if l.queue = [] then some 0 else none

/-- The size of an EMPTY frame (R166). -/
def emptySize : Nat := 5

/-- A read in which the link still sends: SENDING, the host not having ended its reading. -/
def serving (s : State) : Bool := decide (s.link.state = .sending) && !s.link.handedOff

/-- Outside such a read SDA is released, and the host reads FFh (R165, R169). -/
def releasedByte (acked : Bool) (s : State) : State := setAck acked (setSent 0xFF s)

/-- BYTE_SENT: a byte that is not the last of the head message or of an EMPTY frame (R165, R166). -/
def byteSentEvent (acked : Bool) (s : State) : State :=
  if serving s then
    match emptyNext s.link, s.link.queue with
    | some k, _ =>
      if k + 1 < emptySize then
        handOff acked ((setSent 0x00 s).withLink { s.link with emptyPos := some (k + 1) })
      else s
    | none, m :: _ =>
      if s.link.readPos + 1 < m.size then
        handOff acked
          ((setSent (byteAt m.bytes s.link.readPos) s).withLink { s.link with readPos := s.link.readPos + 1 })
      else s
    | none, [] => s
  else releasedByte acked s

/-- MESSAGE_SENT: the last byte of the head message, which leaves the queue, completing a reservation's frame in the same
step; or the last byte of an EMPTY frame, which removes nothing (R162, R165, R166). -/
def messageSentEvent (acked : Bool) (s : State) : State :=
  if serving s then
    match emptyNext s.link, s.link.queue with
    | some k, _ =>
      if k + 1 = emptySize then handOff acked ((setSent 0x00 s).withLink { s.link with emptyPos := none }) else s
    | none, m :: _ =>
      if s.link.readPos + 1 = m.size then
        handOff acked (takePending ((setSent (byteAt m.bytes s.link.readPos) s).withLink (s.link.dropHead m)))
      else s
    | none, [] => s
  else releasedByte acked s

/-! ### Link release (R169) -/

/-- LINK_RELEASE: what the link state of Table 10-4 discards is discarded, and an open link enters IDLE; LREL stays low for
`lowFor` more ticks. -/
def linkReleaseEvent (lowFor : Nat) (s : State) : State :=
  let s := s.withPins { s.pins with lrelLowUntil := s.now + lowFor }
  if s.link.state = .closed then s
  else
    s.withLink { s.link with
      state := .idle, inbound := [], held := none, readPos := 0, emptyPos := none, handedOff := false }

/-! ### A request as a whole write (log entry 15) -/

/-- The host writes one request frame in one transaction to the part's own address: a start, the address, the frame's
bytes, a stop.  Where the address is acknowledged the frame is checked and taken or held; its check byte and kind are
good, so check 4 alone is left (R158 to R162). -/
def hostRequest (kind : ReqKind) (tag : Byte) (p : List Byte) (s : State) : State :=
  let s := addressEvent s.link.address false s
  if s.link.state = .receiving then
    arrive (checkLength kind tag p)
      (s.withLink { s.link with inbound := (frameBytes kind.code tag p).take maxInbound })
  else s

end Sys2Proof.Machine
end

