-- ==== Sys2Proof/Machine/ExecLink.lean ====
section
/-! DEFINITION. The meanings of the transactions of the host port (R158 to R169). -/

namespace Sys2Proof.Machine

/-- ADDRESS_BYTE (R158). -/
def execAddressByte (dt : Nat) (address : BitVec 7) (read : Bool) (s : State) : Host.Outcome State Fault Refusal :=
  event dt (addressEvent address read) s

/-- WRITE_END (R160). -/
def execWriteEnd (dt : Nat) (s : State) : Host.Outcome State Fault Refusal := event dt writeEndEvent s

/-- PENDING_FRAME_TAKEN (R162). -/
def execPendingFrameTaken (dt : Nat) (s : State) : Host.Outcome State Fault Refusal := event dt takePending s

/-- MESSAGE_SENT (R165). -/
def execMessageSent (dt : Nat) (acked : Bool) (s : State) : Host.Outcome State Fault Refusal :=
  event dt (messageSentEvent acked) s

/-- READ_END (R167). -/
def execReadEnd (dt : Nat) (s : State) : Host.Outcome State Fault Refusal := event dt readEndEvent s

/-- LINK_RELEASE (R169). -/
def execLinkRelease (dt : Nat) (lowFor : Nat) (s : State) : Host.Outcome State Fault Refusal :=
  event dt (linkReleaseEvent lowFor) s

/-- DATA_BYTE_WRITTEN (R159). -/
def execDataByteWritten (dt : Nat) (byte : Byte) (s : State) : Host.Outcome State Fault Refusal :=
  event dt (dataByteEvent byte) s

/-- BYTE_SENT (R165). -/
def execByteSent (dt : Nat) (acked : Bool) (s : State) : Host.Outcome State Fault Refusal :=
  event dt (byteSentEvent acked) s

end Sys2Proof.Machine
end

