-- ==== Sys2Proof/Machine/ExecOperating.lean ====
section
/-! DEFINITION. The meanings of the resets, supply, standby and wake rows (R33, R182, R185, R187). -/

namespace Sys2Proof.Machine

/-- POWER_ON (R182). -/
def execPowerOn (dt : Nat) (straps : Straps) (s : State) : Host.Outcome State Fault Refusal :=
  event dt (powerOnEvent straps) s

/-- RSTN_ASSERTED (R182). -/
def execRstnAsserted (dt : Nat) (straps : Straps) (s : State) : Host.Outcome State Fault Refusal :=
  event dt (rstnAssertedEvent straps) s

/-- RSTN_RELEASED (R182). -/
def execRstnReleased (dt : Nat) (s : State) : Host.Outcome State Fault Refusal := event dt rstnReleasedEvent s

/-- STANDBY_ENTRY (R185). -/
def execStandbyEntry (dt : Nat) (s : State) : Host.Outcome State Fault Refusal := event dt standbyEntryEvent s

/-- WAKE_COMPLETION (R187). -/
def execWakeCompletion (dt : Nat) (s : State) : Host.Outcome State Fault Refusal := event dt wakeCompletionEvent s

/-- POWER_LOSS (R33). -/
def execPowerLoss (dt : Nat) (s : State) : Host.Outcome State Fault Refusal := event dt powerLossEvent s

end Sys2Proof.Machine
end

