-- ==== Sys2Proof/Machine/ExecRequests.lean ====
section
/-! DEFINITION. The meanings of the requests of the host, each the whole write of its frame (Table 11-2; log entry 15). -/

namespace Sys2Proof.Machine

/-- GET_STATUS (R190). -/
def execGetStatus (dt : Nat) (tag : Byte) (s : State) : Host.Outcome State Fault Refusal :=
  event dt (hostRequest .getStatus tag []) s

/-- CONFIGURE (R188). -/
def execConfigure (dt : Nat) (tag : Byte) (payload : List Byte) (s : State) : Host.Outcome State Fault Refusal :=
  event dt (hostRequest .configure tag payload) s

/-- READ_CONFIG (R189). -/
def execReadConfig (dt : Nat) (tag : Byte) (payload : List Byte) (s : State) : Host.Outcome State Fault Refusal :=
  event dt (hostRequest .readConfig tag payload) s

/-- STANDBY (R184). -/
def execStandby (dt : Nat) (tag : Byte) (s : State) : Host.Outcome State Fault Refusal :=
  event dt (hostRequest .standby tag []) s

/-- RESET (R183). -/
def execReset (dt : Nat) (tag : Byte) (s : State) : Host.Outcome State Fault Refusal :=
  event dt (hostRequest .reset tag []) s

/-- LEARN_START (R62). -/
def execLearnStart (dt : Nat) (tag source window : Byte) (hint : Word16)
    (s : State) : Host.Outcome State Fault Refusal :=
  event dt (hostRequest .learnStart tag ([source, window] ++ word hint.toNat)) s

/-- LEARN_STOP (R63). -/
def execLearnStop (dt : Nat) (tag : Byte) (s : State) : Host.Outcome State Fault Refusal :=
  event dt (hostRequest .learnStop tag []) s

/-- READ_STAGED (R64). -/
def execReadStaged (dt : Nat) (tag : Byte) (s : State) : Host.Outcome State Fault Refusal :=
  event dt (hostRequest .readStaged tag []) s

/-- STORE (R20). -/
def execStore (dt : Nat) (tag : Byte) (payload : List Byte) (s : State) : Host.Outcome State Fault Refusal :=
  event dt (hostRequest .store tag payload) s

/-- ERASE (R26). -/
def execErase (dt : Nat) (tag slot : Byte) (s : State) : Host.Outcome State Fault Refusal :=
  event dt (hostRequest .erase tag [slot]) s

/-- SET_CODE_FLAGS (R27). -/
def execSetCodeFlags (dt : Nat) (tag slot flags : Byte) (s : State) : Host.Outcome State Fault Refusal :=
  event dt (hostRequest .setCodeFlags tag [slot, flags]) s

/-- READ_CODE (R29). -/
def execReadCode (dt : Nat) (tag slot : Byte) (s : State) : Host.Outcome State Fault Refusal :=
  event dt (hostRequest .readCode tag [slot]) s

/-- LIST_CODES (R30). -/
def execListCodes (dt : Nat) (tag first count : Byte) (s : State) : Host.Outcome State Fault Refusal :=
  event dt (hostRequest .listCodes tag [first, count]) s

/-- SEND (R107). -/
def execSend (dt : Nat) (tag mask slot frames : Byte) (s : State) : Host.Outcome State Fault Refusal :=
  event dt (hostRequest .send tag [mask, slot, frames]) s

/-- HOLD (R107). -/
def execHold (dt : Nat) (tag mask slot limit : Byte) (s : State) : Host.Outcome State Fault Refusal :=
  event dt (hostRequest .hold tag [mask, slot, limit]) s

/-- SEQUENCE (R107). -/
def execSequence (dt : Nat) (tag : Byte) (payload : List Byte) (s : State) : Host.Outcome State Fault Refusal :=
  event dt (hostRequest .sequence tag payload) s

/-- RELEASE (R115). -/
def execRelease (dt : Nat) (tag job : Byte) (s : State) : Host.Outcome State Fault Refusal :=
  event dt (hostRequest .release tag [job]) s

/-- CANCEL (R114). -/
def execCancel (dt : Nat) (tag job : Byte) (s : State) : Host.Outcome State Fault Refusal :=
  event dt (hostRequest .cancel tag [job]) s

/-- FLUSH (R116). -/
def execFlush (dt : Nat) (tag mask : Byte) (s : State) : Host.Outcome State Fault Refusal :=
  event dt (hostRequest .flush tag [mask]) s

/-- JOB_STATUS (R117). -/
def execJobStatus (dt : Nat) (tag job : Byte) (s : State) : Host.Outcome State Fault Refusal :=
  event dt (hostRequest .jobStatus tag [job]) s

/-- DISABLE (R118). -/
def execDisable (dt : Nat) (tag emitter : Byte) (s : State) : Host.Outcome State Fault Refusal :=
  event dt (hostRequest .emitterControl tag [emitter, 0x00]) s

/-- ENABLE (R118). -/
def execEnable (dt : Nat) (tag emitter : Byte) (s : State) : Host.Outcome State Fault Refusal :=
  event dt (hostRequest .emitterControl tag [emitter, 0x01]) s

/-- CLEAR_FAULT (R119). -/
def execClearFault (dt : Nat) (tag emitter : Byte) (s : State) : Host.Outcome State Fault Refusal :=
  event dt (hostRequest .emitterControl tag [emitter, 0x02]) s

/-- NEAR_ON (R119). -/
def execNearOn (dt : Nat) (tag emitter : Byte) (s : State) : Host.Outcome State Fault Refusal :=
  event dt (hostRequest .emitterControl tag [emitter, 0x03]) s

/-- NEAR_OFF (R119). -/
def execNearOff (dt : Nat) (tag emitter : Byte) (s : State) : Host.Outcome State Fault Refusal :=
  event dt (hostRequest .emitterControl tag [emitter, 0x04]) s

/-- ROUTE_SET (R145). -/
def execRouteSet (dt : Nat) (tag index source trigger action target mask frames limit report : Byte)
    (s : State) : Host.Outcome State Fault Refusal :=
  event dt (hostRequest .routeSet tag [index, source, trigger, action, target, mask, frames, limit, report]) s

/-- ROUTE_CLEAR (R146). -/
def execRouteClear (dt : Nat) (tag index : Byte) (s : State) : Host.Outcome State Fault Refusal :=
  event dt (hostRequest .routeClear tag [index]) s

/-- ROUTE_READ (R146). -/
def execRouteRead (dt : Nat) (tag index : Byte) (s : State) : Host.Outcome State Fault Refusal :=
  event dt (hostRequest .routeRead tag [index]) s

end Sys2Proof.Machine
end

