-- ==== Sys2Proof/Machine/Dispatch.lean ====
section
/-! DEFINITION. One arm for each row of the table. -/

namespace Sys2Proof.Machine

/-- The effect of a command on everything but the queue of commands. -/
def exec (i : Instr) (s : State) : Host.Outcome State Fault Refusal :=
  match i with
  | .powerOn dt straps => Sys2Proof.Machine.execPowerOn dt straps s
  | .rstnAsserted dt straps => Sys2Proof.Machine.execRstnAsserted dt straps s
  | .rstnReleased dt => Sys2Proof.Machine.execRstnReleased dt s
  | .mountScanComplete dt decayed => Sys2Proof.Machine.execMountScanComplete dt decayed s
  | .mountRepairCommit dt => Sys2Proof.Machine.execMountRepairCommit dt s
  | .mountReclaimErase dt => Sys2Proof.Machine.execMountReclaimErase dt s
  | .addressByte dt address read => Sys2Proof.Machine.execAddressByte dt address read s
  | .writeEnd dt => Sys2Proof.Machine.execWriteEnd dt s
  | .pendingFrameTaken dt => Sys2Proof.Machine.execPendingFrameTaken dt s
  | .messageSent dt acked => Sys2Proof.Machine.execMessageSent dt acked s
  | .readEnd dt => Sys2Proof.Machine.execReadEnd dt s
  | .linkRelease dt lowFor => Sys2Proof.Machine.execLinkRelease dt lowFor s
  | .getStatus dt tag => Sys2Proof.Machine.execGetStatus dt tag s
  | .configure dt tag payload => Sys2Proof.Machine.execConfigure dt tag payload s
  | .readConfig dt tag payload => Sys2Proof.Machine.execReadConfig dt tag payload s
  | .standby dt tag => Sys2Proof.Machine.execStandby dt tag s
  | .reset dt tag => Sys2Proof.Machine.execReset dt tag s
  | .learnStart dt tag source window hint => Sys2Proof.Machine.execLearnStart dt tag source window hint s
  | .learnStop dt tag => Sys2Proof.Machine.execLearnStop dt tag s
  | .readStaged dt tag => Sys2Proof.Machine.execReadStaged dt tag s
  | .store dt tag payload => Sys2Proof.Machine.execStore dt tag payload s
  | .erase dt tag slot => Sys2Proof.Machine.execErase dt tag slot s
  | .setCodeFlags dt tag slot flags => Sys2Proof.Machine.execSetCodeFlags dt tag slot flags s
  | .readCode dt tag slot => Sys2Proof.Machine.execReadCode dt tag slot s
  | .listCodes dt tag first count => Sys2Proof.Machine.execListCodes dt tag first count s
  | .send dt tag mask slot frames => Sys2Proof.Machine.execSend dt tag mask slot frames s
  | .hold dt tag mask slot limit => Sys2Proof.Machine.execHold dt tag mask slot limit s
  | .sequence dt tag payload => Sys2Proof.Machine.execSequence dt tag payload s
  | .release dt tag job => Sys2Proof.Machine.execRelease dt tag job s
  | .cancel dt tag job => Sys2Proof.Machine.execCancel dt tag job s
  | .flush dt tag mask => Sys2Proof.Machine.execFlush dt tag mask s
  | .jobStatus dt tag job => Sys2Proof.Machine.execJobStatus dt tag job s
  | .disable dt tag emitter => Sys2Proof.Machine.execDisable dt tag emitter s
  | .enable dt tag emitter => Sys2Proof.Machine.execEnable dt tag emitter s
  | .clearFault dt tag emitter => Sys2Proof.Machine.execClearFault dt tag emitter s
  | .nearOn dt tag emitter => Sys2Proof.Machine.execNearOn dt tag emitter s
  | .nearOff dt tag emitter => Sys2Proof.Machine.execNearOff dt tag emitter s
  | .routeSet dt tag index source trigger action target mask frames limit report => Sys2Proof.Machine.execRouteSet dt tag index source trigger action target mask frames limit report s
  | .routeClear dt tag index => Sys2Proof.Machine.execRouteClear dt tag index s
  | .routeRead dt tag index => Sys2Proof.Machine.execRouteRead dt tag index s
  | .segmentVerify dt agrees => Sys2Proof.Machine.execSegmentVerify dt agrees s
  | .commit dt => Sys2Proof.Machine.execCommit dt s
  | .segmentErased dt => Sys2Proof.Machine.execSegmentErased dt s
  | .candidateMarkBegins dt input => Sys2Proof.Machine.execCandidateMarkBegins dt input s
  | .glitchLimitReached dt input => Sys2Proof.Machine.execGlitchLimitReached dt input s
  | .markEnds dt input => Sys2Proof.Machine.execMarkEnds dt input s
  | .envelopeMarkEnd dt => Sys2Proof.Machine.execEnvelopeMarkEnd dt s
  | .frameGapReached dt input => Sys2Proof.Machine.execFrameGapReached dt input s
  | .longMark dt input => Sys2Proof.Machine.execLongMark dt input s
  | .settlingDone dt input => Sys2Proof.Machine.execSettlingDone dt input s
  | .windowExpiry dt => Sys2Proof.Machine.execWindowExpiry dt s
  | .endGapExpiry dt => Sys2Proof.Machine.execEndGapExpiry dt s
  | .releaseTimerExpiry dt => Sys2Proof.Machine.execReleaseTimerExpiry dt s
  | .frameStart dt job => Sys2Proof.Machine.execFrameStart dt job s
  | .elementEnd dt job => Sys2Proof.Machine.execElementEnd dt job s
  | .frameEnd dt job => Sys2Proof.Machine.execFrameEnd dt job s
  | .pauseEnd dt job => Sys2Proof.Machine.execPauseEnd dt job s
  | .sendStepStart dt job => Sys2Proof.Machine.execSendStepStart dt job s
  | .holdDeadlineExpiry dt job => Sys2Proof.Machine.execHoldDeadlineExpiry dt job s
  | .openWindowClose dt emitter => Sys2Proof.Machine.execOpenWindowClose dt emitter s
  | .overcurrent dt emitter => Sys2Proof.Machine.execOvercurrent dt emitter s
  | .maskWindowClose dt emitter => Sys2Proof.Machine.execMaskWindowClose dt emitter s
  | .standbyEntry dt => Sys2Proof.Machine.execStandbyEntry dt s
  | .wakeCompletion dt => Sys2Proof.Machine.execWakeCompletion dt s
  | .powerLoss dt => Sys2Proof.Machine.execPowerLoss dt s
  | .dataByteWritten dt byte => Sys2Proof.Machine.execDataByteWritten dt byte s
  | .byteSent dt acked => Sys2Proof.Machine.execByteSent dt acked s
  | .carrierPulseEdge dt emitter => Sys2Proof.Machine.execCarrierPulseEdge dt emitter s

end Sys2Proof.Machine
end

