-- ==== Sys2Proof/Safety.lean ====
section
/-! DEFINITION. The invariants of the part, and the words that the statements about single commands use. -/

namespace Sys2Proof.Machine

/-! ### Invariants -/

/-- The directory, the pool, the signature index and the route table are in canonical form, their keys strictly rising:
equal contents are equal data, and no slot, segment or entry is listed twice (R15, R16, R80, R144). -/
def TablesCanonical (s : State) : Prop :=
  Table.wf s.lib.directory = true ∧ Table.wf s.lib.pool = true ∧ Table.wf s.rcg.index = true ∧ Table.wf s.routes = true

/-- The link is CLOSED exactly in the operating states in which R170 closes it. -/
def PortFollowsState (s : State) : Prop := s.link.state = .closed ↔ s.opc.state.isOpen = false

/-- While the part is in STANDBY or WAKING, nothing that R185 waits for is under way: no frame pending, no live job, no
learn session, no library operation, no press. -/
def QuietInStandby (s : State) : Prop :=
  s.opc.state = .standby ∨ s.opc.state = .waking →
    s.link.held = none ∧ s.ems.jobs = [] ∧ s.lrn.session = none ∧ s.lib.op = none ∧ s.rcg.press = none

/-- No part is left in STANDBY_PENDING with all five readiness conditions (R185). -/
def StandbySettled (s : State) : Prop := ¬(s.opc.state = .standbyPending ∧ readyForStandby s = true)

/-- The job table, the queues and the recently-ended list keep their sizes (R99, R102, R104), and the last id allocated its
range (R105). -/
def QueuesBounded (s : State) : Prop :=
  s.ems.jobs.length ≤ maxJobs ∧ (∀ e, (s.ems.queues.get e).length ≤ maxQueue) ∧ s.ems.recent.length ≤ maxRecent ∧
    s.ems.lastId ≤ 255

/-- Every live job has an id of its own, 1 to 255 and not that of an ended job still listed; it stands once in each queue of its
mask and in no other, and a job in ACTIVE or ENDING heads them all (R100, R102, R103, R105). -/
def JobsQueued (s : State) : Prop :=
  (s.ems.jobs.map (·.id)).Nodup ∧ (∀ j ∈ s.ems.jobs, 1 ≤ j.id ∧ j.id ≤ 255 ∧ ∀ r ∈ s.ems.recent, r.id ≠ j.id) ∧
    (∀ e, (s.ems.queues.get e).Nodup) ∧
    (∀ e id, id ∈ s.ems.queues.get e ↔ ∃ j ∈ s.ems.jobs, j.id = id ∧ hasEmitter j.mask e = true) ∧
    ∀ j ∈ s.ems.jobs, j.state ≠ .queued → ∀ e, hasEmitter j.mask e = true → headOf s e = some j.id

/-- Two live jobs that share two emitters stand in the same order in both queues (R102). -/
def QueuesOrdered (s : State) : Prop :=
  ∀ e e' a b, [a, b].Sublist (s.ems.queues.get e) → a ∈ s.ems.queues.get e' → b ∈ s.ems.queues.get e' →
    [a, b].Sublist (s.ems.queues.get e')

/-- A live job in ENDING. -/
def isEnding (s : State) (id : Nat) : Prop := ∃ j why, findJob s id = some j ∧ j.state = .ending why

/-- An OFF channel has an empty queue, a channel in FAULT holds no job but one in ENDING, and a STOPPED channel has such a
job at the head of its queue (R103, R120, R135). -/
def ChannelsFollowQueues (s : State) : Prop :=
  ∀ e,
    ((s.channels.get e).mode = .off → s.ems.queues.get e = []) ∧
    (∀ k, (s.channels.get e).mode = .fault k → ∀ id ∈ s.ems.queues.get e, isEnding s id) ∧
    ((s.channels.get e).stopped = true → ∃ id, headOf s e = some id ∧ isEnding s id)

/-- A mirror link names a live HOLD that its own entry admitted (R151). -/
def LinksNameHolds (s : State) : Prop :=
  ∀ i r id, (i, r) ∈ s.routes → r.link = some id →
    ∃ j, findJob s id = some j ∧ j.isHold = true ∧ j.origin = .route i

/-- Every parameter lies in its range of Table 12-4 (R188). -/
def ParamsInRange (s : State) : Prop :=
  let p := s.opc.params
  (3 ≤ p.frameGap ∧ p.frameGap ≤ 100) ∧ p.glitchLimit ≤ 250 ∧ (5 ≤ p.matchTolerance ∧ p.matchTolerance ≤ 35) ∧
    (20 ≤ p.releaseTimeout ∧ p.releaseTimeout ≤ 1000) ∧ p.holdReportEvery ≤ 15 ∧ p.reportUnknown ≤ 1 ∧
    (1 ≤ p.learnWindow ∧ p.learnWindow ≤ 60) ∧ (50 ≤ p.learnEndGap ∧ p.learnEndGap ≤ 1000) ∧
    (1 ≤ p.holdLimit ∧ p.holdLimit ≤ 120) ∧ (2 ≤ p.minFrameGap ∧ p.minFrameGap ≤ 100) ∧ p.senseEnable ≤ 1 ∧
    p.senseInvert ≤ 1 ∧ p.learnInvert ≤ 1 ∧ p.maskTail ≤ 50

/-- The messages queued and the place reserved are 32 at most, the inbound buffer 305 bytes, the missed count 255 (R159,
R162, R164). -/
def PlacesBounded (s : State) : Prop :=
  s.link.queue.length + s.link.reservedPlaces ≤ maxMessages ∧ s.link.inbound.length ≤ maxInbound ∧
    s.link.missed ≤ 255

/-- A frame that Table 10-3 can have let through: a good one has a payload length of its kind (R160). -/
def CheckedFrame.ok : CheckedFrame → Prop
  | .good k _ p => lengthFits k p = true
  | .rejected _ _ => True

/-- The bytes queued and reserved are 2048 at most, and a reservation is that of its frame (R162). -/
def BytesBounded (s : State) : Prop :=
  queueBytes s.link.queue + s.link.reservedBytes ≤ maxBytes ∧
    ∀ h, s.link.held = some h → h.frame.ok ∧ h.size = h.frame.replySize ∧ h.bytes ≤ h.size

/-- The largest wire size of a record (R6). -/
def maxWire : Nat := 266

/-- The most durations of a frame (R40). -/
def maxDurations : Nat := 383

/-- The buffer of a context holds at most 383 durations, a mark of the frame in progress standing after an even number of
them and a space after an odd number, and only a mark in progress of a frame is an entered one (R40, R43, R48). -/
def Context.bounded (c : Context) : Prop :=
  (c.state = .inFrame →
    (c.entered = true → c.buffer.length % 2 = 0) ∧ (c.entered = false → c.buffer.length % 2 = 1)) ∧
    c.buffer.length ≤ maxDurations ∧ (c.state ≠ .inFrame ∨ c.mark = none → c.entered = false)

/-- Every record that a reply can carry is within the largest wire size: stored, being stored, staged, or still frames
(R6, R40). -/
def RecordsBounded (s : State) : Prop :=
  (∀ e ∈ s.lib.directory, e.2.size ≤ maxWire) ∧ (∀ op, s.lib.op = some op → op.bytes.length ≤ maxWire) ∧
    (∀ r, s.lrn.staged = some r → r.wireSize ≤ maxWire) ∧
    (∀ x, s.lrn.session = some x → ∀ f ∈ x.frames, f.durations.length ≤ maxDurations) ∧
    s.cap.sense.bounded ∧ s.cap.learn.bounded

/-- The segments of the chains of the operation in flight. -/
def opChains (l : Lib) : List Nat :=
  match l.op with
  | some op => op.newChain ++ op.oldChain
  | none => []

/-- A mount is in progress, or waits to begin, exactly in MOUNTING; without supply or with RSTN low it has not begun; and no
operation is in flight beside it (R34, R182). -/
def MountFollowsState (s : State) : Prop :=
  (s.lib.mount = none ↔ s.opc.state ≠ .mounting) ∧
    (s.pins.powered = false ∨ s.pins.rstnLow = true →
      ∃ n k, s.lib.mount = some { stage := .notBegun, repaired := n, reclaimed := k }) ∧
    (s.lib.mount ≠ none → s.lib.op = none)

/-- The segments that a mount in its reclaim has still to erase, and none otherwise. -/
def toReclaim (l : Lib) : List Nat :=
  match l.mount with
  | some { stage := .reclaiming segs _, repaired := _, reclaimed := _ } => segs
  | _ => []

/-- The library is past the repairs of its mount: its segments have been sorted into their places. -/
def sorted (l : Lib) : Prop :=
  l.mount = none ∨ ∃ segs due n k, l.mount = some { stage := .reclaiming segs due, repaired := n, reclaimed := k }

/-- The signature index is empty until mount has ended, and then holds the committed lists and flags of each VALID slot that
carries RECOGNIZE, and of no other slot (R80, R81). -/
def IndexFollowsDirectory (s : State) : Prop :=
  if s.lib.mount = none then
    ∀ slot, Table.get s.rcg.index slot =
      match Table.get s.lib.directory slot with
      | some d => if d.flags.recognize then some (indexEntry (Record.ofWire (chainBytes s.lib d)) d.flags) else none
      | none => none
  else s.rcg.index = []

/-- Every segment is in one place at most, and in exactly one once mount has sorted them: a chain of a VALID slot, the free
set, a chain of the operation in flight, or the segments still to be reclaimed; the free set ascends and holds erased
segments alone; and an operation has the chains of its kind and phase, the segments that it has not yet programmed being
erased (R17, R18, R36). -/
def SegmentsPlaced (s : State) : Prop :=
  (validSegments s.lib ++ s.lib.free ++ opChains s.lib ++ toReclaim s.lib).Nodup ∧
    (∀ n ∈ validSegments s.lib ++ s.lib.free ++ opChains s.lib ++ toReclaim s.lib, n < segmentCount) ∧
    (sorted s.lib → ∀ n, n < segmentCount → n ∈ validSegments s.lib ++ s.lib.free ++ opChains s.lib ++ toReclaim s.lib) ∧
    (¬sorted s.lib → s.lib.free = []) ∧
    (s.lib.free.Pairwise (· < ·) ∧ ∀ n ∈ s.lib.free, Table.get s.lib.pool n = none) ∧
    ∀ op, s.lib.op = some op →
      (op.kind ≠ .store → op.newChain = []) ∧
        match op.phase with
        | .programming n m =>
          op.kind = .store ∧ op.oldChain = [] ∧ 1 ≤ n ∧ n ≤ m ∧ op.newChain.length = m ∧
            ∀ k ∈ op.newChain.drop (n - 1), Table.get s.lib.pool k = none
        | .committing => op.oldChain = []
        | .releasing _ _ => op.newChain ++ op.oldChain ≠ []

/-! ### The words of the statements -/

/-- Every item of a list is as it should be at its place. -/
def EveryItem {α : Type} (ok : Nat → α → Prop) (l : List α) : Prop := ∀ k x, l[k]? = some x → ok k x

/-- Item `i` is the first of a list that is not as it should be at its place. -/
def FirstItem {α : Type} (ok : Nat → α → Prop) (l : List α) (i : Nat) : Prop :=
  (∃ x, l[i]? = some x ∧ ¬ok i x) ∧ ∀ k x, k < i → l[k]? = some x → ok k x

/-- A duration of the class table in range (Table 2-2, field 4). -/
def ClassOk (_ d : Nat) : Prop := 10 ≤ d ∧ d ≤ 65000

/-- A pair at place `i` of a list: its classes below the class count, and END in the last pair alone (Table 2-2, field 7). -/
def PairOk (classes length i : Nat) (q : Pair) : Prop :=
  q.mark < classes ∧ (∀ c, q.space = some c → c < classes) ∧ (q.space = none ↔ i + 1 = length)

/-- A printable byte of the label (Table 2-2, field 12). -/
def LabelOk (_ : Nat) (b : Byte) : Prop := 0x20 ≤ b.toNat ∧ b.toNat ≤ 0x7E

/-- The checks of Table 2-2 by their field numbers. -/
def Record.FieldOk (r : Record) (field : Nat) : Prop :=
  match field with
  | 1 => r.carrier = 0 ∨ (200 ≤ r.carrier ∧ r.carrier ≤ 600) ∨ (3500 ≤ r.carrier ∧ r.carrier ≤ 5000)
  | 2 => r.duty = 25 ∨ r.duty = 33 ∨ r.duty = 50
  | 3 => 1 ≤ r.classes.length ∧ r.classes.length ≤ 8
  | 4 => EveryItem ClassOk r.classes
  | 5 => 1 ≤ r.body.length ∧ r.body.length ≤ 192
  | 6 => r.later.length ≤ 32
  | 7 => EveryItem (PairOk r.classes.length r.body.length) r.body
  | 8 => EveryItem (PairOk r.classes.length r.later.length) r.later
  | 9 => r.interval ≤ 1000
  | 10 => 1 ≤ r.minFrames ∧ r.minFrames ≤ 15
  | 11 => r.label.length ≤ 16
  | 12 => EveryItem LabelOk r.label
  | _ => True

/-- A field of Table 2-2 fails its check, with the item that is reported for it. -/
def Record.FieldFails (r : Record) (field item : Nat) : Prop :=
  match field with
  | 4 => FirstItem ClassOk r.classes item
  | 7 => FirstItem (PairOk r.classes.length r.body.length) r.body item
  | 8 => FirstItem (PairOk r.classes.length r.later.length) r.later item
  | 12 => FirstItem LabelOk r.label item
  | _ => ¬r.FieldOk field ∧ item = 0

/-- The states in which the port acknowledges a write address: open and between transactions, LREL high, no frame pending,
standby entry not due (R158, R169). -/
def PortOpen (u : State) : Prop :=
  u.link.state = .idle ∧ u.link.held = none ∧ u.opc.state.isOpen = true ∧ lrelLow u = false ∧ StandbySettled u

/-- The states in which a request of a kind is taken at once: its reply fits the queue (R161). -/
def PortReady (k : ReqKind) (u : State) : Prop :=
  PortOpen u ∧ u.link.queue.length < maxMessages ∧ k.maxReply + queueBytes u.link.queue ≤ maxBytes

/-- A request as its owner finds it in state `u`: its bytes acknowledged, the link IDLE and its buffer empty, a pending
standby forgotten (R161, R184). -/
def found (u : State) : State :=
  { u with
    pins := { u.pins with acked := true }
    opc := { u.opc with state := .awake }
    link := { u.link with state := .idle, inbound := [] } }

/-- A request taken in state `u` and answered, the reply at the tail of the queue (R161, R178). -/
def answered (tag : Byte) (status : Status) (more : List Byte) (u : State) : State :=
  { found u with
    link := { (found u).link with
      queue := u.link.queue ++ [{ kind := .reply, tag := tag, payload := status.code :: more }] } }

/-- The state with the outbound queue and counters that a notification leaves (R164). -/
def notified (n : Notification) (u : State) : State := { u with link := u.link.notify n }

/-- Commands executed one after another. -/
def runAll : List Instr → State → State
  | [], s => s
  | c :: rest, s =>
    match exec c s with
    | .next t => runAll rest t
    | _ => s

/-- The frame that a request row stands for, after the time before it: its kind, tag and payload (Table 11-8; log entry 15);
none for the rows that are no requests. -/
def requestOf : Instr → Option (Nat × ReqKind × Byte × List Byte)
  | .getStatus dt tag => some (dt, .getStatus, tag, [])
  | .configure dt tag p => some (dt, .configure, tag, p)
  | .readConfig dt tag p => some (dt, .readConfig, tag, p)
  | .standby dt tag => some (dt, .standby, tag, [])
  | .reset dt tag => some (dt, .reset, tag, [])
  | .learnStart dt tag source window hint => some (dt, .learnStart, tag, [source, window] ++ word hint.toNat)
  | .learnStop dt tag => some (dt, .learnStop, tag, [])
  | .readStaged dt tag => some (dt, .readStaged, tag, [])
  | .store dt tag p => some (dt, .store, tag, p)
  | .erase dt tag slot => some (dt, .erase, tag, [slot])
  | .setCodeFlags dt tag slot flags => some (dt, .setCodeFlags, tag, [slot, flags])
  | .readCode dt tag slot => some (dt, .readCode, tag, [slot])
  | .listCodes dt tag first count => some (dt, .listCodes, tag, [first, count])
  | .send dt tag mask slot frames => some (dt, .send, tag, [mask, slot, frames])
  | .hold dt tag mask slot limit => some (dt, .hold, tag, [mask, slot, limit])
  | .sequence dt tag p => some (dt, .sequence, tag, p)
  | .release dt tag job => some (dt, .release, tag, [job])
  | .cancel dt tag job => some (dt, .cancel, tag, [job])
  | .flush dt tag mask => some (dt, .flush, tag, [mask])
  | .jobStatus dt tag job => some (dt, .jobStatus, tag, [job])
  | .disable dt tag e => some (dt, .emitterControl, tag, [e, 0x00])
  | .enable dt tag e => some (dt, .emitterControl, tag, [e, 0x01])
  | .clearFault dt tag e => some (dt, .emitterControl, tag, [e, 0x02])
  | .nearOn dt tag e => some (dt, .emitterControl, tag, [e, 0x03])
  | .nearOff dt tag e => some (dt, .emitterControl, tag, [e, 0x04])
  | .routeSet dt tag i source trigger action target mask frames limit report =>
    some (dt, .routeSet, tag, [i, source, trigger, action, target, mask, frames, limit, report])
  | .routeClear dt tag i => some (dt, .routeClear, tag, [i])
  | .routeRead dt tag i => some (dt, .routeRead, tag, [i])
  | .powerOn .. | .rstnAsserted .. | .rstnReleased .. | .mountScanComplete .. | .mountRepairCommit ..
  | .mountReclaimErase .. | .addressByte .. | .writeEnd .. | .pendingFrameTaken .. | .messageSent .. | .readEnd ..
  | .linkRelease .. | .segmentVerify .. | .commit .. | .segmentErased .. | .candidateMarkBegins ..
  | .glitchLimitReached .. | .markEnds .. | .envelopeMarkEnd .. | .frameGapReached .. | .longMark .. | .settlingDone ..
  | .windowExpiry .. | .endGapExpiry .. | .releaseTimerExpiry .. | .frameStart .. | .elementEnd .. | .frameEnd ..
  | .pauseEnd .. | .sendStepStart .. | .holdDeadlineExpiry .. | .openWindowClose .. | .overcurrent ..
  | .maskWindowClose .. | .standbyEntry .. | .wakeCompletion .. | .powerLoss .. | .dataByteWritten .. | .byteSent ..
  | .carrierPulseEdge .. => none

/-- What every block holds in the step of a reset of the given cause, the port at the given address (R182, with R60, R79, R98,
R123, R143, R155, R172 and the defaults of Table 12-4); the working values of a context in OFF are the model's (log entry 6). -/
def ResetValues (cause : ResetCause) (address : BitVec 7) (t : State) : Prop :=
  t.now = 0 ∧
  t.opc.state = .mounting ∧ t.opc.cause = cause ∧ t.opc.wake = none ∧
  t.opc.params =
    { frameGap := 15, glitchLimit := 60, matchTolerance := 20, releaseTimeout := 130, holdReportEvery := 4,
      reportUnknown := 1, learnWindow := 10, learnEndGap := 150, holdLimit := 10, minFrameGap := 8, senseEnable := 1,
      senseInvert := 0, learnInvert := 0, maskTail := 5 } ∧
  t.link =
    { state := .closed, address := address, inbound := [], held := none, queue := [], readPos := 0, emptyPos := none,
      handedOff := false, missed := 0, seq := 0 } ∧
  t.lib.op = none ∧ t.lib.free = [] ∧
  t.cap.sense =
    { state := .off, buffer := [], frameGap := 15, glitchLimit := 60, invert := false, armed := false, quietFrom := none,
      frameStart := 0, mark := none, entered := false, lastStart := 0, gapFrom := none, measure := false, group := none,
      groups := [] } ∧
  t.cap.learn = t.cap.sense ∧
  t.lrn = { session := none, staged := none } ∧
  t.rcg = { index := [], press := none, kept := [] } ∧
  t.routes = [] ∧
  t.ems = { jobs := [], queues := { e0 := [], e1 := [], e2 := [], e3 := [] }, lastId := 0, recent := [] } ∧
  ∀ e, t.channels.get e =
    { mode := .on, stopped := false, ready := none, near := false, frameNear := false, window := .closed, drive := none,
      check := [], out := false }

end Sys2Proof.Machine
end

