-- ==== Sys2Proof/Certificates/Slice0/Obligations.lean ====
section
/-! DEFINITION. The statements for the provers, each citing the rule of the specification it formalises.  In every one of
them `u` is the state the command finds once the time before it has passed. -/

open Sys2Proof Sys2Proof.Machine

/-! ### The machine -/

/-- A step takes the command at the front of the queue and executes it on the queue's rest, and on an empty queue the part
idles; no command faults or is refused, and none touches the queue of commands.
That an empty queue idles is the model's choice (log entry 5). -/
def Obligations.stepRunsFrontCommand : Prop :=
  ((∀ (c : Instr) (rest : List Instr) (s : State),
    step { s with pending := c :: rest } = exec c { s with pending := rest }) ∧
  ∀ s : State, s.pending = [] → step s = .next s) ∧
  (∀ (c : Instr) (s : State), ∃ t, exec c s = .next t ∧ t.pending = s.pending)


/-! ### The host link -/

/-- R159, R160, R158, R169: DATA_BYTE_WRITTEN stores and acknowledges a byte in RECEIVING up to the 305th and refuses it beyond; outside
RECEIVING it refuses it; a write that stored fewer than 5 bytes is discarded at its end. -/
def Obligations.dataByteStored : Prop :=
  ∀ (dt : Nat) (x : Byte) (s : State), let u := advance dt s
    (u.link.state = .receiving → u.link.inbound.length < 305 →
      exec (.dataByteWritten dt x) s =
        .next { u with pins := { u.pins with acked := true },
                       link := { u.link with inbound := u.link.inbound ++ [x] } }) ∧
    (u.link.state = .receiving → 305 ≤ u.link.inbound.length →
      exec (.dataByteWritten dt x) s = .next { u with pins := { u.pins with acked := false } }) ∧
    (u.link.state ≠ .receiving →
      exec (.dataByteWritten dt x) s = .next (settleStandby { u with pins := { u.pins with acked := false } })) ∧
    (u.link.state = .receiving → u.link.inbound.length < 5 →
      exec (.writeEnd dt) s = .next (settleStandby { u with link := { u.link with state := .idle, inbound := [] } }))

/-- Table 10-2 and R158: an address byte between transactions is judged by the link state, and in STANDBY wakes the part;
LREL low refuses it (R169).
How long LREL stays low is an operand of the model (log entry 26). -/
def Obligations.addressByteJudged : Prop :=
  ∀ (dt : Nat) (a : BitVec 7) (read : Bool) (s : State), let u := advance dt s
    StandbySettled u → u.link.state ≠ .receiving → u.link.state ≠ .sending →
    (a ≠ u.link.address →
      exec (.addressByte dt a read) s = .next { u with pins := { u.pins with acked := false } }) ∧
    (a = u.link.address → u.link.state = .closed → u.opc.state ≠ .standby →
      exec (.addressByte dt a read) s = .next { u with pins := { u.pins with acked := false } }) ∧
    (a = u.link.address → u.link.state = .closed → u.opc.state = .standby →
      exec (.addressByte dt a read) s =
        .next { u with pins := { u.pins with acked := false },
                       opc := { u.opc with state := .waking, wake := some .link, wakeDue := u.now + 80000 } }) ∧
    (a = u.link.address → u.link.state ≠ .closed → lrelLow u = true →
      exec (.addressByte dt a read) s = .next { u with pins := { u.pins with acked := false } }) ∧
    (a = u.link.address → u.link.state = .pending → read = false →
      exec (.addressByte dt a read) s = .next { u with pins := { u.pins with acked := false } }) ∧
    (a = u.link.address → u.link.state = .idle → lrelLow u = false → read = false →
      exec (.addressByte dt a read) s =
        .next { u with pins := { u.pins with acked := true },
                       link := { u.link with state := .receiving, inbound := [] } }) ∧
    (a = u.link.address → u.link.state = .idle ∨ u.link.state = .pending → lrelLow u = false → read = true →
      exec (.addressByte dt a read) s =
        .next { u with pins := { u.pins with acked := true },
                       link := { u.link with
                         state := .sending, readPos := 0, emptyPos := none, handedOff := false } })

/-- R160 to R162: WRITE_END of 5 bytes or more checks them as a frame; a rejected frame whose reply fits is answered, a
good one is passed to its owner with the operating state it was found in, and a frame whose reply does not fit becomes
pending with its reservation.  Outside RECEIVING a write's end changes nothing. -/
def Obligations.writeEndChecksFrame : Prop :=
  ∀ (dt : Nat) (s : State), let u := advance dt s
    let f := checkFrame u.link.inbound
    let v : State := { u with link := { u.link with state := .idle, inbound := [] } }
    (u.link.state ≠ .receiving → exec (.writeEnd dt) s = .next (settleStandby u)) ∧
    (u.link.state = .receiving → 5 ≤ u.link.inbound.length → u.link.fits f = false →
      exec (.writeEnd dt) s =
        .next { u with link := { u.link with
          state := .pending
          held := some { frame := f, size := f.replySize, bytes := min f.replySize u.link.freeBytes,
                         place := decide (u.link.queue.length < 32) } } }) ∧
    (∀ tag st, u.link.state = .receiving → 5 ≤ u.link.inbound.length → u.link.fits f = true → f = .rejected tag st →
      exec (.writeEnd dt) s =
        .next { v with link := { v.link with
          queue := v.link.queue ++ [{ kind := .reply, tag := tag, payload := [st.code] }] } }) ∧
    (∀ k tag p, u.link.state = .receiving → 5 ≤ u.link.inbound.length → u.link.fits f = true → f = .good k tag p →
      k ≠ .standby → u.opc.state = .standbyPending →
      exec (.writeEnd dt) s =
        .next (settleStandby (own .standbyPending k tag p { v with opc := { v.opc with state := .awake } }))) ∧
    (∀ k tag p, u.link.state = .receiving → 5 ≤ u.link.inbound.length → u.link.fits f = true → f = .good k tag p →
      k = .standby ∨ u.opc.state ≠ .standbyPending →
      exec (.writeEnd dt) s = .next (settleStandby (own u.opc.state k tag p v)))

/-- R160, R173: the frame the part builds has a right length and check byte, a request frame built in the same way comes
through the checks as its kind, tag and payload with check 4 alone left, and the checks are made in the order of
Table 10-3. -/
def Obligations.frameChecksInOrder : Prop :=
  (∀ (k : ReqKind) (tag : Byte) (p : List Byte), p.length ≤ 300 →
    checkFrame (frameBytes k.code tag p) =
      if k.lengths.1 ≤ p.length ∧ p.length ≤ k.lengths.2 then .good k tag p else .rejected tag .badLength) ∧
  (∀ (kind tag : Byte) (p : List Byte),
    (frameBytes kind tag p).length = 5 + p.length ∧ byteSum (frameBytes kind tag p) = 0) ∧
  (∀ bytes : List Byte, bytes.length ≠ 5 + wordAt bytes 2 →
    checkFrame bytes = .rejected (byteAt bytes 1) .badLength) ∧
  (∀ bytes : List Byte, bytes.length = 5 + wordAt bytes 2 → byteSum bytes ≠ 0 →
    checkFrame bytes = .rejected (byteAt bytes 1) .badCheck) ∧
  ∀ bytes : List Byte, bytes.length = 5 + wordAt bytes 2 → byteSum bytes = 0 → (∀ k : ReqKind, k.code ≠ byteAt bytes 0) →
    checkFrame bytes = .rejected (byteAt bytes 1) .unknownKind

/-- A request row is its transaction: in a state between transactions in which the port acknowledges its address, the row
leaves the state that the address byte, the bytes of the frame one by one and the end of the write leave; where the address
is refused, it leaves the state that the refused address byte leaves (R156 to R162; log entry 15). -/
def Obligations.requestRowIsItsTransaction : Prop :=
  ∀ (i : Instr) (dt : Nat) (k : ReqKind) (tag : Byte) (p : List Byte) (s : State), let u := advance dt s
    requestOf i = some (dt, k, tag, p) → p.length ≤ 300 → StandbySettled u →
    (u.link.state = .idle → lrelLow u = false →
      exec i s =
        .next (runAll ([.addressByte dt s.link.address false] ++ (frameBytes k.code tag p).map (.dataByteWritten 0) ++
          [.writeEnd 0]) s)) ∧
    (u.link.state = .closed ∨ u.link.state = .pending ∨ (u.link.state = .idle ∧ lrelLow u = true) →
      exec i s = exec (.addressByte dt s.link.address false) s)

/-- R165, R166: BYTE_SENT and MESSAGE_SENT send the bytes of the head message and of EMPTY frames in turn; the last byte of
the head message removes it; a byte the host acknowledges asks for a further one, with which an EMPTY frame begins where the
queue is empty, whatever is appended before it is sent; a byte the host does not acknowledge ends its reading, after which it
reads FFh.
That the first byte of a read is chosen where it is sent is the model's reading (log entry 39). -/
def Obligations.bytesSentInTurn : Prop :=
  ∀ (dt : Nat) (ack : Bool) (s : State) (m : Message) (rest : List Message) (k : Nat), let u := advance dt s
    (u.link.state = .sending → u.link.handedOff = false → u.link.emptyPos = none → u.link.queue = m :: rest →
      u.link.readPos + 1 < m.size →
      exec (.byteSent dt ack) s =
        .next { u with pins := { u.pins with sent := byteAt m.bytes u.link.readPos, acked := ack },
                       link := { u.link with readPos := u.link.readPos + 1, handedOff := !ack } }) ∧
    (u.link.state = .sending → u.link.handedOff = false → u.link.emptyPos = none → u.link.queue = m :: rest →
      u.link.readPos + 1 = m.size → u.link.held = none →
      exec (.messageSent dt ack) s =
        .next { u with pins := { u.pins with sent := byteAt m.bytes u.link.readPos, acked := ack },
                       link := { u.link with
                         queue := rest, readPos := 0, handedOff := !ack,
                         emptyPos := if ack = true ∧ rest = [] then some 0 else none } }) ∧
    (u.link.state = .sending → u.link.handedOff = false →
      u.link.emptyPos = some k ∨ (u.link.emptyPos = none ∧ u.link.queue = [] ∧ k = 0) → k < 4 →
      exec (.byteSent dt ack) s =
        .next { u with pins := { u.pins with sent := 0x00, acked := ack },
                       link := { u.link with emptyPos := some (k + 1), handedOff := !ack } }) ∧
    (u.link.state = .sending → u.link.handedOff = false → u.link.emptyPos = some 4 →
      exec (.messageSent dt ack) s =
        .next { u with pins := { u.pins with sent := 0x00, acked := ack },
                       link := { u.link with
                         emptyPos := if ack = true ∧ u.link.queue = [] then some 0 else none, handedOff := !ack } }) ∧
    (u.link.state ≠ .sending ∨ u.link.handedOff = true →
      exec (.byteSent dt ack) s = .next (settleStandby { u with pins := { u.pins with sent := 0xFF, acked := ack } }) ∧
      exec (.messageSent dt ack) s = .next (settleStandby { u with pins := { u.pins with sent := 0xFF, acked := ack } }))

/-- R162: the bytes and the place of a removed message go to the reservation, which takes the pending frame in that same
step once it holds the whole reply size and a place; PENDING_FRAME_TAKEN takes the frame of a complete reservation.
That both rows make the one taking is the model's reading (log entry 19). -/
def Obligations.pendingFrameTakenWhenComplete : Prop :=
  ∀ (dt : Nat) (s : State) (m : Message) (rest : List Message) (h : Held), let u := advance dt s
    (u.link.state = .sending → u.link.handedOff = false → u.link.emptyPos = none → u.link.queue = m :: rest →
      u.link.readPos + 1 = m.size → u.link.held = some h → h.bytes + m.size < h.size →
      exec (.messageSent dt true) s =
        .next { u with pins := { u.pins with sent := byteAt m.bytes u.link.readPos, acked := true },
                       link := { u.link with
                         queue := rest, readPos := 0, emptyPos := if rest = [] then some 0 else none,
                         held := some { h with bytes := h.bytes + m.size, place := true } } }) ∧
    (u.link.state = .sending → u.link.handedOff = false → u.link.emptyPos = none → u.link.queue = m :: rest →
      u.link.readPos + 1 = m.size → u.link.held = some h → h.size ≤ h.bytes + m.size →
      let t := take h.frame
        { u with pins := { u.pins with sent := byteAt m.bytes u.link.readPos },
                 link := { u.link with queue := rest, readPos := 0, held := none, inbound := [] } }
      exec (.messageSent dt true) s =
        .next (settleStandby
          { t with pins := { t.pins with acked := true },
                   link := if t.link.state = .sending ∧ t.link.emptyPos = none ∧ t.link.queue = [] then
                     { t.link with emptyPos := some 0 } else t.link })) ∧
    (u.link.state = .pending → u.link.held = some h → h.size ≤ h.bytes → h.place = true →
      exec (.pendingFrameTaken dt) s =
        .next (settleStandby (take h.frame
          { u with link := { u.link with state := .idle, held := none, inbound := [] } }))) ∧
    (u.link.held = some h → h.bytes < h.size ∨ h.place = false →
      exec (.pendingFrameTaken dt) s = .next (settleStandby u))

/-- R167, R169 and Table 10-4: the end of a read rewinds the head message and returns to PENDING or IDLE; a link release
discards a write, a pending frame and the read position, keeps the queue, and leaves IDLE, or CLOSED as it was.
How long LREL stays low is an operand of the model (log entry 26). -/
def Obligations.readEndAndLinkRelease : Prop :=
  ∀ (dt low : Nat) (s : State), let u := advance dt s
    (u.link.state = .sending →
      exec (.readEnd dt) s =
        .next (settleStandby { u with link := { u.link with
          state := if u.link.held = none then .idle else .pending
          readPos := 0, emptyPos := none, handedOff := false } })) ∧
    (u.link.state ≠ .sending → exec (.readEnd dt) s = .next (settleStandby u)) ∧
    (u.link.state = .closed →
      exec (.linkRelease dt low) s = .next { u with pins := { u.pins with lrelLowUntil := u.now + low } }) ∧
    (u.link.state ≠ .closed →
      exec (.linkRelease dt low) s =
        .next (settleStandby
          { u with pins := { u.pins with lrelLowUntil := u.now + low },
                   link := { u.link with
                     state := .idle, inbound := [], held := none, readPos := 0, emptyPos := none,
                     handedOff := false } }))

/-- R163, R164: a notification is admitted when its frame fits the bytes and the place left beyond the reservation, with the
missed count and the sequence number, which it resets and advances; otherwise it is dropped and counted. -/
def Obligations.notificationAdmittedOrDropped : Prop :=
  ∀ (l : Link) (n : Notification),
    let m : Message := { kind := n.kind, tag := l.seq, payload := byte l.missed :: n.fields }
    (m.size ≤ 2048 - queueBytes l.queue - l.reservedBytes → 1 ≤ 32 - l.queue.length - l.reservedPlaces →
      l.notify n = { l with queue := l.queue ++ [m], missed := 0, seq := l.seq + 1 }) ∧
    (2048 - queueBytes l.queue - l.reservedBytes < m.size ∨ 32 - l.queue.length - l.reservedPlaces = 0 →
      l.notify n = { l with missed := min 255 (l.missed + 1) })

/-! ### Resets, standby and wake -/

/-- R182, R183, R33: POWER_ON, RSTN_ASSERTED, RESET and POWER_LOSS put every block at its reset values, with the cause and
the address of each; mount begins with its 5 ms scan unless RSTN is low, and else when RSTN_RELEASED comes (the cause and
address after a power loss, and the working values of a context in OFF, are the model's, log entries 14 and 6). -/
def Obligations.resetsTakeResetValues : Prop :=
  ∀ (dt : Nat) (straps : Straps) (tag : Byte) (s : State), let u := advance dt s
    (∃ t, exec (.powerOn dt straps) s = .next t ∧ ResetValues .power (0x3A + straps.setWidth 7) t ∧
      t.pins.powered = true ∧ t.pins.rstnLow = u.pins.rstnLow ∧
      t.lib.mount =
        some { stage := if u.pins.rstnLow then .notBegun else .scanning 200000, repaired := 0, reclaimed := 0 }) ∧
    (u.pins.rstnLow = false → u.pins.powered = true →
      ∃ t, exec (.rstnAsserted dt straps) s = .next t ∧ ResetValues .pin (0x3A + straps.setWidth 7) t ∧
        t.pins.powered = true ∧ t.pins.rstnLow = true ∧
        t.lib.mount = some { stage := .notBegun, repaired := 0, reclaimed := 0 }) ∧
    (PortOpen u →
      ∃ t, exec (.reset dt tag) s = .next t ∧ ResetValues .request u.link.address t ∧
        t.pins.powered = u.pins.powered ∧ t.pins.rstnLow = u.pins.rstnLow ∧
        t.lib.mount = some { stage := .scanning 200000, repaired := 0, reclaimed := 0 }) ∧
    (u.pins.powered = true →
      ∃ t, exec (.powerLoss dt) s = .next t ∧ ResetValues .power u.link.address t ∧
        t.pins.powered = false ∧ t.pins.rstnLow = u.pins.rstnLow ∧
        t.lib.mount = some { stage := .notBegun, repaired := 0, reclaimed := 0 }) ∧
    (u.pins.rstnLow = true → u.pins.powered = true → u.opc.state = .mounting →
      exec (.rstnReleased dt) s =
        .next { u with
          pins := { u.pins with rstnLow := false }
          lib := { u.lib with
            mount := some { stage := .scanning (u.now + 200000), repaired := 0, reclaimed := 0 } } })

/-- R33, R35, R36 and Table 3-5: what a power loss, RSTN or RESET leaves of the directory and the pool, by the phase of the
operation or the stage of the mount that it cuts: a segment being programmed or erased is left not erased, an entry being
committed is left old or new, and every other slot and segment keeps its content.
The mark of a segment left not erased, and the choice between old and new, are the model's (log entries 2 and 24). -/
def Obligations.cutLeavesLibrary : Prop :=
  ∀ (dt : Nat) (straps : Straps) (tag : Byte) (c : Instr) (s t : State), let u := advance dt s
    TablesCanonical u →
    (c = .powerLoss dt ∧ u.pins.powered = true) ∨
      (c = .rstnAsserted dt straps ∧ u.pins.powered = true ∧ u.pins.rstnLow = false) ∨
      (c = .reset dt tag ∧ PortOpen u) →
    exec c s = .next t →
    (u.lib.op = none → u.lib.mount = none → t.lib.directory = u.lib.directory ∧ t.lib.pool = u.lib.pool) ∧
    (∀ op n m, u.lib.op = some op → u.lib.mount = none → op.phase = .programming n m →
      t.lib.directory = u.lib.directory ∧ Table.get t.lib.pool (op.newChain.getD (n - 1) 0) = some .spoiled ∧
      ∀ k, k ≠ op.newChain.getD (n - 1) 0 → Table.get t.lib.pool k = Table.get u.lib.pool k) ∧
    (∀ op, u.lib.op = some op → u.lib.mount = none → op.phase = .committing →
      t.lib.pool = u.lib.pool ∧ (∀ k, k ≠ op.slot → Table.get t.lib.directory k = Table.get u.lib.directory k) ∧
      (Table.get t.lib.directory op.slot = Table.get u.lib.directory op.slot ∨
        Table.get t.lib.directory op.slot =
          match op.kind with
          | .store => some { flags := op.flags, size := op.bytes.length, chain := op.newChain, check := op.check }
          | .erase => none
          | .setFlags => (Table.get u.lib.directory op.slot).map fun e => { e with flags := op.flags })) ∧
    (∀ op n m seg, u.lib.op = some op → u.lib.mount = none → op.phase = .releasing n m →
      (op.newChain ++ op.oldChain).head? = some seg →
      t.lib.directory = u.lib.directory ∧ Table.get t.lib.pool seg = some .spoiled ∧
      ∀ k, k ≠ seg → Table.get t.lib.pool k = Table.get u.lib.pool k) ∧
    (∀ slot rest due n k, u.lib.op = none →
      u.lib.mount = some { stage := .repairing (slot :: rest) due, repaired := n, reclaimed := k } →
      t.lib.pool = u.lib.pool ∧
      (t.lib.directory = u.lib.directory ∨ t.lib.directory = Table.erase u.lib.directory slot)) ∧
    (∀ seg rest due n k, u.lib.op = none →
      u.lib.mount = some { stage := .reclaiming (seg :: rest) due, repaired := n, reclaimed := k } →
      t.lib.directory = u.lib.directory ∧ Table.get t.lib.pool seg = some .spoiled ∧
      ∀ k, k ≠ seg → Table.get t.lib.pool k = Table.get u.lib.pool k)

/-- R184 to R187: STANDBY is answered OK and makes the standby pending; the part enters STANDBY, and the link CLOSED, in the step
at which the five readiness conditions hold together, the end of a read among them, and otherwise STANDBY_ENTRY changes
nothing.  2 ms after the wake cause WAKE_COMPLETION puts the part in AWAKE and the link in IDLE, hands over WAKE, and then has
the frames kept for the wake acted on in the order of their delivery.
That the completing step makes the entry and leaves nothing to its row, and that it asks for the five conditions alone, are the
model's readings (log entries 17 and 36). -/
def Obligations.standbyAndWake : Prop :=
  (∀ (dt : Nat) (tag : Byte) (s : State), let u := advance dt s
    (PortReady .standby u →
      exec (.standby dt tag) s = .next { answered tag .ok [] u with opc := { u.opc with state := .standbyPending } }) ∧
    (u.opc.state = .standbyPending → u.link.state = .idle → u.link.queue = [] → u.link.held = none →
      u.ems.jobs = [] → u.lrn.session = none → u.lib.op = none → u.rcg.press = none →
      exec (.standbyEntry dt) s =
        .next { u with opc := { u.opc with state := .standby }, link := { u.link with state := .closed } }) ∧
    (u.opc.state = .standbyPending → u.link.state = .sending → u.link.queue = [] → u.link.held = none →
      u.ems.jobs = [] → u.lrn.session = none → u.lib.op = none → u.rcg.press = none →
      exec (.readEnd dt) s =
        .next { u with
          opc := { u.opc with state := .standby }
          link := { u.link with state := .closed, readPos := 0, emptyPos := none, handedOff := false } }) ∧
    (StandbySettled u → exec (.standbyEntry dt) s = .next u)) ∧
  (∀ (dt : Nat) (cause : WakeCause) (s : State), let u := advance dt s
    (u.opc.state = .waking → u.opc.wake = some cause → u.opc.wakeDue ≤ u.now →
      exec (.wakeCompletion dt) s =
        .next (u.rcg.kept.foldl (fun s d => actOnFrame d s)
          (notified (.wake cause)
            { u with
              opc := { u.opc with state := .awake, wake := none }
              link := { u.link with state := .idle }
              rcg := { u.rcg with kept := [] } }))) ∧
    (u.opc.state ≠ .waking ∨ u.now < u.opc.wakeDue → exec (.wakeCompletion dt) s = .next (settleStandby u)))


/-! ### Parameters and status -/

/-- R188, R174: CONFIGURE is refused for a length that is no whole number of pairs, and with the index of its first bad pair;
otherwise every pair's value becomes current in this step, and a SENSE_ENABLE set to 0 turns the SENSE context off.  Every step
keeps each parameter within its range of Table 12-4. -/
def Obligations.configureSetsParameters : Prop :=
  (∀ (dt : Nat) (tag : Byte) (p : List Byte) (s : State), let u := advance dt s
    PortReady .configure u → 3 ≤ p.length → p.length ≤ 42 →
    (p.length % 3 ≠ 0 → exec (.configure dt tag p) s = .next (answered tag .badLength [] u)) ∧
    (∀ i, p.length % 3 = 0 → (configPairs p).findIdx? (fun x => !paramOk x.1 x.2) = some i →
      exec (.configure dt tag p) s = .next (answered tag .badArgument [byte i] u)) ∧
    (p.length % 3 = 0 → (∀ x ∈ configPairs p, paramOk x.1 x.2 = true) → (∀ x ∈ configPairs p, x.1 ≠ 0x0B) →
      exec (.configure dt tag p) s =
        .next { answered tag .ok [] u with
          opc := { (found u).opc with
            params := (configPairs p).foldl (fun q x => q.update x.1 x.2) u.opc.params } }) ∧
    (p = [0x0B, 0x00, 0x00] → u.opc.params.senseEnable = 1 → awaiting u .sense = none →
      exec (.configure dt tag p) s =
        .next { answered tag .ok [] u with
          opc := { (found u).opc with params := { u.opc.params with senseEnable := 0 } }
          cap := { u.cap with sense := u.cap.sense.enterOff } })) ∧
  ∀ s t : State, ParamsInRange s → step s = .next t → ParamsInRange t

/-- R189: READ_CONFIG answers one triple for each id in the order asked, or the index of the first bad id. -/
def Obligations.readConfigAnswersValues : Prop :=
  ∀ (dt : Nat) (tag : Byte) (p : List Byte) (s : State), let u := advance dt s
    PortReady .readConfig u → 1 ≤ p.length → p.length ≤ 14 →
    (∀ i, p.findIdx? (fun id => !decide (0x01 ≤ id.toNat ∧ id.toNat ≤ 0x0E)) = some i →
      exec (.readConfig dt tag p) s = .next (answered tag .badArgument [byte i] u)) ∧
    ((∀ id ∈ p, 0x01 ≤ id.toNat ∧ id.toNat ≤ 0x0E) →
      exec (.readConfig dt tag p) s =
        .next (answered tag .ok (p.flatMap fun id => id :: word ((u.opc.params.value id.toNat).getD 0)) u))

/-- R190 and Table 11-10: GET_STATUS is answered OK with the 36 bytes of the status summary, as the blocks stood when the
request was taken, the operating state being the one in which it found the part. -/
def Obligations.getStatusReports : Prop :=
  ∀ (dt : Nat) (tag : Byte) (s : State), let u := advance dt s
    let ofEmitter : Emitter → List Byte := fun e =>
      [(channelState u e).code, (u.channels.get e).mode.faultCode, byte (u.ems.queues.get e).length,
        byte ((u.ems.queues.get e).head?.getD 0)]
    let summary : List Byte :=
      [u.opc.state.code] ++ ofEmitter .e0 ++ ofEmitter .e1 ++ ofEmitter .e2 ++ ofEmitter .e3 ++
        [byte u.ems.jobs.length] ++ word u.lib.free.length ++ [byte u.lib.directory.length] ++ opStatus u.lib.op ++
        [learnStatus u.lrn.session, if u.lrn.staged.isSome then 0x01 else 0x00] ++ pressStatus u.rcg.press ++
        [byte u.link.queue.length] ++ word (queueBytes u.link.queue) ++ [byte u.link.missed]
    (PortReady .getStatus u → exec (.getStatus dt tag) s = .next (answered tag .ok summary u)) ∧ summary.length = 36

/-! ### The library -/

/-- R34 to R37, R60, R81, R182: the scan reads the pool and marks the slots whose check differs; each repair commits one slot
EMPTY; each reclaim erases one segment into the free set; each goes on to the next with its time and its count, and before its
moment does nothing.  Mount ends with the last of them: the index holds the VALID slots that carry RECOGNIZE, the SENSE
context enters IDLE, the part is AWAKE, the link IDLE, and READY is handed over with the cause and the counts.
The decayed segments are an operand of the model, and each stage is timed from the due moment of the one before (log entries 5
and 13). -/
def Obligations.mountRunsItsStages : Prop :=
  (∀ (dt due n k : Nat) (decayed : List (Nat × List Byte)) (s : State), let u := advance dt s
    u.opc.state = .mounting →
    (∀ slots, u.lib.mount = some { stage := .scanning due, repaired := n, reclaimed := k } → due ≤ u.now →
      failedSlots { u.lib with pool := decay decayed u.lib.pool } = slots → slots ≠ [] →
      exec (.mountScanComplete dt decayed) s =
        .next { u with lib := { u.lib with
          pool := decay decayed u.lib.pool
          mount := some { stage := .repairing slots (due + 80000), repaired := 0, reclaimed := 0 } } }) ∧
    (∀ segs, u.lib.mount = some { stage := .scanning due, repaired := n, reclaimed := k } → due ≤ u.now →
      failedSlots { u.lib with pool := decay decayed u.lib.pool } = [] →
      leftovers { u.lib with pool := decay decayed u.lib.pool } = segs → segs ≠ [] →
      exec (.mountScanComplete dt decayed) s =
        .next { u with lib := { u.lib with
          pool := decay decayed u.lib.pool
          free := erasedSegments { u.lib with pool := decay decayed u.lib.pool }
          mount := some { stage := .reclaiming segs (due + 80000), repaired := 0, reclaimed := 0 } } }) ∧
    (∀ slot next rest,
      u.lib.mount = some { stage := .repairing (slot :: next :: rest) due, repaired := n, reclaimed := k } →
      due ≤ u.now →
      exec (.mountRepairCommit dt) s =
        .next { u with lib := { u.lib with
          directory := Table.erase u.lib.directory slot
          mount := some { stage := .repairing (next :: rest) (due + 80000), repaired := n + 1, reclaimed := 0 } } }) ∧
    (∀ slot segs, u.lib.mount = some { stage := .repairing [slot] due, repaired := n, reclaimed := k } → due ≤ u.now →
      leftovers { u.lib with directory := Table.erase u.lib.directory slot } = segs → segs ≠ [] →
      exec (.mountRepairCommit dt) s =
        .next { u with lib := { u.lib with
          directory := Table.erase u.lib.directory slot
          free := erasedSegments { u.lib with directory := Table.erase u.lib.directory slot }
          mount := some { stage := .reclaiming segs (due + 80000), repaired := n + 1, reclaimed := 0 } } }) ∧
    (∀ seg next rest,
      u.lib.mount = some { stage := .reclaiming (seg :: next :: rest) due, repaired := n, reclaimed := k } →
      due ≤ u.now →
      exec (.mountReclaimErase dt) s =
        .next { u with lib := { u.lib with
          pool := Table.erase u.lib.pool seg
          free := insertAscending seg u.lib.free
          mount := some { stage := .reclaiming (next :: rest) (due + 80000), repaired := n, reclaimed := k + 1 } } }) ∧
    (∀ stage, u.lib.mount = some { stage := stage, repaired := n, reclaimed := k } →
      stage = .notBegun ∨ stage = .scanning due ∨ (∃ l, stage = .repairing l due) ∨ (∃ l, stage = .reclaiming l due) →
      u.now < due →
      exec (.mountScanComplete dt decayed) s = .next u ∧ exec (.mountRepairCommit dt) s = .next u ∧
        exec (.mountReclaimErase dt) s = .next u)) ∧
  (∀ (dt due n k : Nat) (decayed : List (Nat × List Byte)) (s : State), let u := advance dt s
    let ended : Lib → Nat → Nat → State := fun l n k =>
      notified (.ready u.opc.cause n k)
        { u with
          lib := { l with mount := none }
          rcg := { u.rcg with index := buildIndex l }
          cap := { u.cap with sense := u.cap.sense.enterIdle .sense u.opc.params u.cap.rxs }
          opc := { u.opc with state := .awake }
          link := { u.link with state := .idle } }
    maskingPresent u = false →
    (∀ seg, u.lib.mount = some { stage := .reclaiming [seg] due, repaired := n, reclaimed := k } → due ≤ u.now →
      exec (.mountReclaimErase dt) s =
        .next (ended { u.lib with pool := Table.erase u.lib.pool seg, free := insertAscending seg u.lib.free } n (k + 1))) ∧
    (∀ slot, u.lib.mount = some { stage := .repairing [slot] due, repaired := n, reclaimed := k } → due ≤ u.now →
      leftovers { u.lib with directory := Table.erase u.lib.directory slot } = [] →
      exec (.mountRepairCommit dt) s =
        .next (ended { u.lib with
          directory := Table.erase u.lib.directory slot
          free := erasedSegments { u.lib with directory := Table.erase u.lib.directory slot } } (n + 1) 0)) ∧
    (u.lib.mount = some { stage := .scanning due, repaired := n, reclaimed := k } → due ≤ u.now →
      failedSlots { u.lib with pool := decay decayed u.lib.pool } = [] →
      leftovers { u.lib with pool := decay decayed u.lib.pool } = [] →
      exec (.mountScanComplete dt decayed) s =
        .next (ended { u.lib with
          pool := decay decayed u.lib.pool
          free := erasedSegments { u.lib with pool := decay decayed u.lib.pool } } 0 0)) ∧
    ∀ slot e, Table.wf u.lib.directory = true →
      (Table.get (buildIndex u.lib) slot = some e ↔
        ∃ d, Table.get u.lib.directory slot = some d ∧ d.flags.recognize = true ∧
          e = indexEntry (Record.ofWire (chainBytes u.lib d)) d.flags))


/-- R6, R177, R174, R4: a valid record has a wire form of its wire size, 13 to 266 bytes and 1 to 9 segments, from which the
same record is read back; its STORE payload passes the agreement test, names that record, and passes the record checks. -/
def Obligations.recordWireFormReadsBack : Prop :=
  ∀ (r : Record) (slot : Byte) (s : State), recordFault r = none →
    r.wire.length = 10 + 2 * r.classes.length + r.label.length + r.body.length + r.later.length ∧
    13 ≤ r.wire.length ∧ r.wire.length ≤ 266 ∧ r.wireSize = r.wire.length ∧
    1 ≤ storedSize r.wireSize ∧ storedSize r.wireSize ≤ 9 ∧
    Record.ofWire r.wire = r ∧
    payloadAgrees .store ([slot, 0x00, 0x00, 0x00] ++ r.wire) = true ∧
    (slot.toNat < 128 → storeSource s ([slot, 0x00, 0x00, 0x00] ++ r.wire) = .ok (SlotFlags.clear, r))

/-- R20, R21, R174: STORE is refused by the first of its conditions that fails: the agreement of its payload, its arguments,
the staged record, the record checks, an operation in flight, space; accepted, it takes the lowest free segments and begins
PROGRAMMING 1 of m.
The check value is free (log entry 1). -/
def Obligations.storeAcceptedOrRefused : Prop :=
  ∀ (dt : Nat) (tag : Byte) (p : List Byte) (r : Record) (s : State), let u := advance dt s
    let flags : SlotFlags :=
      { recognize := (byteAt p 1).getLsbD 0, notify := (byteAt p 1).getLsbD 1, wake := (byteAt p 1).getLsbD 2 }
    let m := storedSize r.wireSize
    let badFields : Prop :=
      128 ≤ (byteAt p 0).toNat ∨ 8 ≤ (byteAt p 1).toNat ∨ 2 ≤ (byteAt p 2).toNat ∨
        (byteAt p 2 = 0x00 ∧ byteAt p 3 ≠ 0x00) ∨ (byteAt p 2 = 0x01 ∧ 8 ≤ (byteAt p 3).toNat)
    let named : Prop :=
      (byteAt p 2 = 0x00 ∧ r = Record.ofWire (p.drop 4)) ∨
        (byteAt p 2 = 0x01 ∧ u.lrn.staged.map (withOverrides · p) = some r)
    PortReady .store u → 8 ≤ p.length → p.length ≤ 270 →
    (payloadAgrees .store p = false → exec (.store dt tag p) s = .next (answered tag .badLength [] u)) ∧
    (payloadAgrees .store p = true → badFields → exec (.store dt tag p) s = .next (answered tag .badArgument [] u)) ∧
    (payloadAgrees .store p = true → ¬badFields → byteAt p 2 = 0x01 → u.lrn.staged = none →
      exec (.store dt tag p) s = .next (answered tag .noStaged [] u)) ∧
    (∀ field item, payloadAgrees .store p = true → ¬badFields → named → recordFault r = some (field, item) →
      exec (.store dt tag p) s = .next (answered tag .badRecord [byte field, byte item] u)) ∧
    (payloadAgrees .store p = true → ¬badFields → named → recordFault r = none → u.lib.op ≠ none →
      exec (.store dt tag p) s = .next (answered tag .libBusy [] u)) ∧
    (payloadAgrees .store p = true → ¬badFields → named → recordFault r = none → u.lib.op = none →
      u.lib.free.length < m →
      exec (.store dt tag p) s = .next (answered tag .noSpace [] u)) ∧
    (payloadAgrees .store p = true → ¬badFields → named → recordFault r = none → u.lib.op = none →
      m ≤ u.lib.free.length →
      exec (.store dt tag p) s =
        .next { answered tag .accepted [] u with
          lib := { u.lib with
            free := u.lib.free.drop m
            op := some { kind := .store, slot := (byteAt p 0).toNat, newChain := u.lib.free.take m, oldChain := [],
                         phase := .programming 1 m, tag := tag, flags := flags, bytes := r.wire,
                         check := Config.checkValue r.wire, due := u.now + 120000 } } })

/-- R4, Tables 2-1 and 2-2: a record passes its checks exactly when each of the twelve fields is within its range, and otherwise
the refusal names the first failing field in the order of the field numbers, with its first failing item. -/
def Obligations.recordChecksInFieldOrder : Prop :=
  ∀ r : Record,
    (recordFault r = none ↔ ∀ field, 1 ≤ field → field ≤ 12 → r.FieldOk field) ∧
    ∀ field item, recordFault r = some (field, item) ↔
      1 ≤ field ∧ field ≤ 12 ∧ r.FieldFails field item ∧ ∀ g, 1 ≤ g → g < field → r.FieldOk g

/-- R22, R23, R25, R26, R28: at the end of a segment's 3 ms a verify that agrees leaves it programmed with its 32 bytes and goes
on to the next, or to the commit after the last; one that disagrees frees the segments never programmed and begins to release
the others.  At the end of a segment's 2 ms it is erased and joins the free set, every other segment reading as before, and the
release goes on, or LIB_DONE ends the operation, with WRITE_FAULT for the new chain of a failed STORE.
Each phase is timed from the due moment of the one before, and the mark of a segment that failed its verify is the model's (log
entries 5 and 24). -/
def Obligations.segmentsProgrammedAndErased : Prop :=
  (∀ (dt n m : Nat) (op : LibOp) (s : State), let u := advance dt s
    u.lib.op = some op → op.phase = .programming n m →
    (op.due ≤ u.now → n < m →
      exec (.segmentVerify dt true) s =
        .next { u with lib := { u.lib with
          pool := Table.set u.lib.pool (op.newChain.getD (n - 1) 0)
            (.programmed ((op.bytes.drop (32 * (n - 1))).take 32))
          op := some { op with phase := .programming (n + 1) m, due := op.due + 120000 } } }) ∧
    (op.due ≤ u.now → n = m →
      exec (.segmentVerify dt true) s =
        .next { u with lib := { u.lib with
          pool := Table.set u.lib.pool (op.newChain.getD (n - 1) 0)
            (.programmed ((op.bytes.drop (32 * (n - 1))).take 32))
          op := some { op with phase := .committing, due := op.due + 80000 } } }) ∧
    (op.due ≤ u.now →
      exec (.segmentVerify dt false) s =
        .next { u with lib := { u.lib with
          pool := Table.set u.lib.pool (op.newChain.getD (n - 1) 0) .spoiled
          free := (op.newChain.drop n).foldl (fun f k => insertAscending k f) u.lib.free
          op := some { op with newChain := op.newChain.take n, phase := .releasing 1 n, due := op.due + 80000 } } }) ∧
    (u.now < op.due → ∀ agrees, exec (.segmentVerify dt agrees) s = .next u)) ∧
  (∀ (dt n m seg : Nat) (op : LibOp) (s : State), let u := advance dt s
    let erased : Lib :=
      { u.lib with pool := Table.erase u.lib.pool seg, free := insertAscending seg u.lib.free }
    u.lib.op = some op → op.phase = .releasing n m →
    (∀ next rest, op.due ≤ u.now → op.newChain = [] → op.oldChain = seg :: next :: rest →
      exec (.segmentErased dt) s =
        .next { u with lib := { erased with
          op := some { op with oldChain := next :: rest, phase := .releasing (n + 1) m, due := op.due + 80000 } } }) ∧
    (op.due ≤ u.now → op.newChain = [] → op.oldChain = [seg] →
      exec (.segmentErased dt) s =
        .next (notified (.libDone op.tag op.kind op.slot false) { u with lib := { erased with op := none } })) ∧
    (∀ next rest, op.due ≤ u.now → op.newChain = seg :: next :: rest →
      exec (.segmentErased dt) s =
        .next { u with lib := { erased with
          op := some { op with newChain := next :: rest, phase := .releasing (n + 1) m, due := op.due + 80000 } } }) ∧
    (op.due ≤ u.now → op.newChain = [seg] → op.oldChain = [] →
      exec (.segmentErased dt) s =
        .next (notified (.libDone op.tag op.kind op.slot true) { u with lib := { erased with op := none } })) ∧
    (∀ k, k ≠ seg → Table.get erased.pool k = Table.get u.lib.pool k) ∧
    (u.now < op.due → exec (.segmentErased dt) s = .next u))

/-- R24 to R28, R32, R82: at the end of its 2 ms a COMMIT replaces the slot's entry alone, gives the news to the Recognizer,
and ends the operation with LIB_DONE, or begins to release the chain the slot had (no press being under way).
The release is timed from the due moment of the commit (log entry 5). -/
def Obligations.commitReplacesEntry : Prop :=
  ∀ (dt : Nat) (op : LibOp) (s : State), let u := advance dt s
    let entry : DirEntry := { flags := op.flags, size := op.bytes.length, chain := op.newChain, check := op.check }
    let stored : List (Nat × DirEntry) := Table.set u.lib.directory op.slot entry
    let record : Record := Record.ofWire (chainBytes u.lib entry)
    u.lib.op = some op → op.phase = .committing → u.rcg.press = none →
    (op.kind = .store → op.due ≤ u.now → Table.get u.lib.directory op.slot = none →
      exec (.commit dt) s =
        .next (notified (.libDone op.tag .store op.slot false)
          { u with
            lib := { u.lib with directory := stored, op := none }
            rcg := { u.rcg with index := indexAfter u.rcg.index .record op.slot (some (record, op.flags)) } })) ∧
    (∀ old, op.kind = .store → op.due ≤ u.now → Table.get u.lib.directory op.slot = some old → old.chain ≠ [] →
      exec (.commit dt) s =
        .next { u with
          lib := { u.lib with
            directory := stored
            op := some { op with newChain := [], oldChain := old.chain, phase := .releasing 1 old.chain.length,
                                 due := op.due + 80000 } }
          rcg := { u.rcg with index := indexAfter u.rcg.index .record op.slot (some (record, op.flags)) } }) ∧
    (∀ old, op.kind = .erase → op.due ≤ u.now → Table.wf u.lib.directory = true →
      Table.get u.lib.directory op.slot = some old → old.chain ≠ [] →
      exec (.commit dt) s =
        .next { u with
          lib := { u.lib with
            directory := Table.erase u.lib.directory op.slot
            op := some { op with newChain := [], oldChain := old.chain, phase := .releasing 1 old.chain.length,
                                 due := op.due + 80000 } }
          rcg := { u.rcg with index := Table.erase u.rcg.index op.slot } }) ∧
    (∀ old, op.kind = .setFlags → op.due ≤ u.now → Table.get u.lib.directory op.slot = some old →
      exec (.commit dt) s =
        .next (notified (.libDone op.tag .setFlags op.slot false)
          { u with
            lib := { u.lib with
              directory := Table.set u.lib.directory op.slot { old with flags := op.flags }, op := none }
            rcg := { u.rcg with
              index := indexAfter u.rcg.index .flags op.slot
                (some (Record.ofWire (chainBytes u.lib old), op.flags)) } })) ∧
    (u.now < op.due → exec (.commit dt) s = .next u)

/-- R32, R82, R93 and Table 6-1: the news of a commit that leaves the slot EMPTY or without RECOGNIZE takes its entry out of the
index, and every other one puts the committed lists and flags in; it withdraws a press on the slot unless it is of the
kind FLAGS with RECOGNIZE, which gives the press the new NOTIFY flag; a press on another slot goes on unchanged. -/
def Obligations.commitNewsActsOnPress : Prop :=
  ∀ (kind : NewsKind) (slot : Nat) (r : Record) (f : SlotFlags) (p : Press) (s : State),
    (f.recognize = true → kind ≠ .flags →
      Table.get (indexAfter s.rcg.index kind slot (some (r, f))) slot =
        some { classes := r.classes, body := r.body, later := r.later, notify := f.notify, wake := f.wake }) ∧
    (Table.wf s.rcg.index = true →
      Table.get (indexAfter s.rcg.index kind slot none) slot = none ∧
        (f.recognize = false → Table.get (indexAfter s.rcg.index kind slot (some (r, f))) slot = none)) ∧
    (∀ e, f.recognize = true → Table.get s.rcg.index slot = some e →
      Table.get (indexAfter s.rcg.index .flags slot (some (r, f))) slot =
        some { e with notify := f.notify, wake := f.wake }) ∧
    (f.recognize = true → Table.get s.rcg.index slot = none →
      Table.get (indexAfter s.rcg.index .flags slot (some (r, f))) slot =
        some { classes := r.classes, body := r.body, later := r.later, notify := f.notify, wake := f.wake }) ∧
    (∀ k, k ≠ slot → ∀ new, Table.get (indexAfter s.rcg.index kind slot new) k = Table.get s.rcg.index k) ∧
    (s.rcg.press = some p → p.slot = slot → f.recognize = true →
      commitNews .flags slot (some (r, f)) s =
        { s with rcg := { s.rcg with
          index := indexAfter s.rcg.index .flags slot (some (r, f)), press := some { p with notify := f.notify } } }) ∧
    (∀ new, s.rcg.press = some p → p.slot = slot →
      (kind = .record ∨ kind = .empty ∨ (kind = .flags ∧ new = some (r, f) ∧ f.recognize = false)) →
      commitNews kind slot new s =
        endPress p .withdrawn { s with rcg := { s.rcg with index := indexAfter s.rcg.index kind slot new } }) ∧
    ∀ new, s.rcg.press = none ∨ (s.rcg.press = some p ∧ p.slot ≠ slot) →
      commitNews kind slot new s = { s with rcg := { s.rcg with index := indexAfter s.rcg.index kind slot new } }


/-- R26, R27: ERASE and SET_CODE_FLAGS are refused for a bad argument, then while an operation is in flight, then for an EMPTY
slot; accepted, the operation begins with its commit, 2 ms long. -/
def Obligations.eraseAndFlagsBeginCommit : Prop :=
  ∀ (dt : Nat) (tag slot flags : Byte) (s : State), let u := advance dt s
    let committing : LibKind → SlotFlags → LibOp := fun kind f =>
      { kind := kind, slot := slot.toNat, newChain := [], oldChain := [], phase := .committing, tag := tag, flags := f,
        bytes := [], check := 0, due := u.now + 80000 }
    (PortReady .erase u →
      (128 ≤ slot.toNat → exec (.erase dt tag slot) s = .next (answered tag .badArgument [] u)) ∧
      (slot.toNat < 128 → u.lib.op ≠ none → exec (.erase dt tag slot) s = .next (answered tag .libBusy [] u)) ∧
      (slot.toNat < 128 → u.lib.op = none → Table.get u.lib.directory slot.toNat = none →
        exec (.erase dt tag slot) s = .next (answered tag .noCode [] u)) ∧
      (slot.toNat < 128 → u.lib.op = none → Table.get u.lib.directory slot.toNat ≠ none →
        exec (.erase dt tag slot) s =
          .next { answered tag .accepted [] u with
            lib := { u.lib with
              op := some (committing .erase { recognize := false, notify := false, wake := false }) } })) ∧
    (PortReady .setCodeFlags u →
      (128 ≤ slot.toNat ∨ 8 ≤ flags.toNat →
        exec (.setCodeFlags dt tag slot flags) s = .next (answered tag .badArgument [] u)) ∧
      (slot.toNat < 128 → flags.toNat < 8 → u.lib.op ≠ none →
        exec (.setCodeFlags dt tag slot flags) s = .next (answered tag .libBusy [] u)) ∧
      (slot.toNat < 128 → flags.toNat < 8 → u.lib.op = none → Table.get u.lib.directory slot.toNat = none →
        exec (.setCodeFlags dt tag slot flags) s = .next (answered tag .noCode [] u)) ∧
      (slot.toNat < 128 → flags.toNat < 8 → u.lib.op = none → Table.get u.lib.directory slot.toNat ≠ none →
        exec (.setCodeFlags dt tag slot flags) s =
          .next { answered tag .accepted [] u with
            lib := { u.lib with
              op := some (committing .setFlags
                { recognize := flags.getLsbD 0, notify := flags.getLsbD 1, wake := flags.getLsbD 2 }) } }))

/-- R29, R30: READ_CODE and LIST_CODES answer from the committed entries and change nothing else: the slot, its flags and its
stored bytes; one summary of ten bytes for each slot from the first, as many as asked, up to slot 127, with the slot number, the
state, the committed flags, the wire size, the carrier, the body and repeat lengths and the class count, all clear or 0 for an
EMPTY slot. -/
def Obligations.codesReadBack : Prop :=
  ∀ (dt : Nat) (tag slot first count : Byte) (s : State), let u := advance dt s
    let summary : Nat → List Byte := fun k =>
      match Table.get u.lib.directory k with
      | none => [byte k, 0x00, 0x00, 0x00, 0x00, 0x00, 0x00, 0x00, 0x00, 0x00]
      | some e =>
        let r := Record.ofWire (chainBytes u.lib e)
        [byte k, 0x01, BitVec.ofNat 8 (e.flags.recognize.toNat + 2 * e.flags.notify.toNat + 4 * e.flags.wake.toNat)] ++
          word e.size ++ word r.carrier ++ [byte r.body.length, byte r.later.length, byte r.classes.length]
    (PortReady .readCode u →
      (128 ≤ slot.toNat → exec (.readCode dt tag slot) s = .next (answered tag .badArgument [] u)) ∧
      (slot.toNat < 128 → Table.get u.lib.directory slot.toNat = none →
        exec (.readCode dt tag slot) s = .next (answered tag .noCode [] u)) ∧
      (∀ e, slot.toNat < 128 → Table.get u.lib.directory slot.toNat = some e →
        exec (.readCode dt tag slot) s =
          .next (answered tag .ok ([slot, e.flags.toByte] ++ chainBytes u.lib e) u))) ∧
    (PortReady .listCodes u →
      (128 ≤ first.toNat ∨ count = 0 ∨ 30 ≤ count.toNat →
        exec (.listCodes dt tag first count) s = .next (answered tag .badArgument [] u)) ∧
      (first.toNat < 128 → 1 ≤ count.toNat → count.toNat ≤ 29 →
        let n := min count.toNat (128 - first.toNat)
        exec (.listCodes dt tag first count) s =
          .next (answered tag .ok
            (byte n :: (List.range n).flatMap fun i => summary (first.toNat + i)) u))) ∧
    ∀ k, (summary k).length = 10

/-! ### Frame capture -/

/-- R42 to R45, R50: CANDIDATE_MARK_BEGINS on RXS, stamped in whole µs, begins a candidate in IDLE (a frame at once where
GLITCH_LIMIT is 0), joins two marks over a space below GLITCH_LIMIT, begins a candidate in a longer gap, stops the wait of
SETTLING, and is ignored in OFF and MASKED.  MARK_ENDS enters a mark of the frame with its duration in whole µs and begins the
space after it; removes a candidate that has not reached GLITCH_LIMIT without a trace; ends the wait for an inactive input in
IDLE; begins the wait of SETTLING.
The stamps, the rounding and the order of overdue events are the model's (log entries 8 and 12). -/
def Obligations.senseEdges : Prop :=
  (∀ (dt e : Nat) (s : State), let u := advance dt s
    let c := u.cap.sense
    let at_ := 40 * (u.now / 40)
    let became : Context → State := fun x => { u with cap := { u.cap with rxs := c.invert, sense := x } }
    StandbySettled u → u.cap.rxs ≠ c.invert → c.group = none → c.quietFrom = none → c.mark = none → c.entered = false →
    (c.state = .idle → c.armed = true → 0 < c.glitchLimit →
      exec (.candidateMarkBegins dt .sense) s = .next (became { c with mark := some at_ })) ∧
    (c.state = .idle → c.armed = true → c.glitchLimit = 0 →
      exec (.candidateMarkBegins dt .sense) s =
        .next (became { c with state := .inFrame, mark := some at_, entered := true, frameStart := at_, buffer := [],
                               groups := [] })) ∧
    (c.state = .idle → c.armed = false → exec (.candidateMarkBegins dt .sense) s = .next (became c)) ∧
    (c.state = .inFrame → c.gapFrom = some e → u.now ≤ e + min (40000 * c.frameGap) 2600000 →
      at_ < e + 40 * c.glitchLimit → u.now < c.lastStart + 2600000 →
      exec (.candidateMarkBegins dt .sense) s =
        .next (became { c with mark := some c.lastStart, entered := true, gapFrom := none,
                               buffer := c.buffer.dropLast })) ∧
    (c.state = .inFrame → c.gapFrom = some e → u.now < e + min (40000 * c.frameGap) 2600000 →
      e + 40 * c.glitchLimit ≤ at_ → 0 < c.glitchLimit →
      exec (.candidateMarkBegins dt .sense) s = .next (became { c with mark := some at_ })) ∧
    (c.state = .settling → c.gapFrom = some e → u.now ≤ e + 40000 * c.frameGap →
      exec (.candidateMarkBegins dt .sense) s = .next (became { c with gapFrom := none })) ∧
    (c.state = .off ∨ c.state = .masked → exec (.candidateMarkBegins dt .sense) s = .next (became c))) ∧
  (∀ (dt m e : Nat) (s : State), let u := advance dt s
    let c := u.cap.sense
    let at_ := 40 * (u.now / 40)
    let became : Context → State := fun x => { u with cap := { u.cap with rxs := !c.invert, sense := x } }
    StandbySettled u → u.cap.rxs = c.invert → c.group = none →
    (c.state = .idle → c.armed = true → c.mark = some m → c.entered = false → u.now < m + 40 * c.glitchLimit →
      exec (.markEnds dt .sense) s = .next (became { c with mark := none })) ∧
    (c.state = .inFrame → c.mark = some m → c.entered = true → u.now < m + 2600000 →
      exec (.markEnds dt .sense) s =
        .next (became { c with buffer := c.buffer ++ [min 64999 (max 1 ((at_ - m + 20) / 40))], mark := none,
                               entered := false, lastStart := m, gapFrom := some at_ })) ∧
    (c.state = .inFrame → c.mark = some m → c.entered = false → c.gapFrom = some e →
      u.now < m + 40 * c.glitchLimit → u.now ≤ e + min (40000 * c.frameGap) 2600000 →
      exec (.markEnds dt .sense) s = .next (became { c with mark := none })) ∧
    (c.state = .idle → c.armed = false → c.mark = none → exec (.markEnds dt .sense) s = .next (became { c with armed := true })) ∧
    (c.state = .settling → exec (.markEnds dt .sense) s = .next (became { c with gapFrom := some at_ })))


/-- R42 to R44, R48 to R50: when a candidate in progress on RXS reaches GLITCH_LIMIT, it becomes mark 0 of a frame in IDLE and the
next mark in a gap, the space before it being entered; as mark 193 it makes the frame too long.  That, and a mark that
reaches 65,000 µs, discards the frame and the context enters SETTLING (no session being attached); an input inactive for the
working FRAME_GAP lets SETTLING enter IDLE with the parameters copied anew.  A space entered is at least 1 µs, at most 64,999 µs
and less than FRAME_GAP (R46).
The rounding is the model's (log entry 8). -/
def Obligations.senseTimedEvents : Prop :=
  (∀ (dt m e : Nat) (s : State), let u := advance dt s
    let c := u.cap.sense
    let became : Context → State := fun x => { u with cap := { u.cap with sense := x } }
    StandbySettled u → u.cap.rxs = c.invert → c.mark = some m → c.entered = false →
    (c.state = .idle → m + 40 * c.glitchLimit ≤ u.now →
      exec (.glitchLimitReached dt .sense) s =
        .next (became { c with state := .inFrame, entered := true, frameStart := m, buffer := [], groups := [] })) ∧
    (c.state = .inFrame → c.gapFrom = some e → m + 40 * c.glitchLimit ≤ u.now → c.buffer.length < 383 →
      m + 40 * c.glitchLimit ≤ e + min (40000 * c.frameGap) 2600000 → m < e + min (40000 * c.frameGap) 2600000 →
      exec (.glitchLimitReached dt .sense) s =
        .next (became { c with entered := true, gapFrom := none,
                               buffer := c.buffer ++
                                 [max 1 (min (1000 * c.frameGap - 1) (min 64999 ((m - e + 20) / 40)))] })) ∧
    (c.state = .inFrame → c.gapFrom = some e → m + 40 * c.glitchLimit ≤ u.now → 383 ≤ c.buffer.length →
      m + 40 * c.glitchLimit ≤ e + min (40000 * c.frameGap) 2600000 → m < e + min (40000 * c.frameGap) 2600000 →
      attachedTo u .sense = none →
      exec (.glitchLimitReached dt .sense) s = .next (became (c.enterSettling .sense u.cap.rxs u.now))) ∧
    (u.now < m + 40 * c.glitchLimit → exec (.glitchLimitReached dt .sense) s = .next u)) ∧
  (∀ (dt m e : Nat) (s : State), let u := advance dt s
    let c := u.cap.sense
    StandbySettled u →
    (c.state = .inFrame → c.mark = some m → c.entered = true → u.cap.rxs = c.invert → attachedTo u .sense = none →
      m + 2600000 ≤ u.now →
      exec (.longMark dt .sense) s =
        .next { u with cap := { u.cap with
          sense := { c with
            state := .settling, buffer := [], armed := false, quietFrom := none, mark := none, entered := false,
            gapFrom := none, group := none, groups := [] } } }) ∧
    (c.state = .inFrame → c.mark = some m → c.entered = true → u.cap.rxs = c.invert → u.now < m + 2600000 →
      exec (.longMark dt .sense) s = .next u) ∧
    (c.state = .settling → c.gapFrom = some e → u.cap.rxs ≠ c.invert → e + 40000 * c.frameGap ≤ u.now →
      exec (.settlingDone dt .sense) s =
        .next { u with cap := { u.cap with
          sense := { c with
            state := .idle, buffer := [], frameGap := u.opc.params.frameGap, glitchLimit := u.opc.params.glitchLimit,
            invert := u.opc.params.senseInvert == 1, armed := u.cap.rxs != (u.opc.params.senseInvert == 1),
            quietFrom := none, mark := none, entered := false, gapFrom := none, group := none, groups := [] } } }) ∧
    (c.state = .settling → c.gapFrom = some e → u.now < e + 40000 * c.frameGap →
      exec (.settlingDone dt .sense) s = .next u))

/-- R46, R47: at the end of its gap a frame on RXS is handed over: to the Recognizer alone, or to the Recognizer and the session
attached to SENSE in one of the two orders; its context enters IDLE, a candidate of the gap becoming the candidate of IDLE.
Before that moment nothing happens.
The free order, and the candidate kept only while the polarity is unchanged, are the model's (log entries 3 and 11). -/
def Obligations.senseFrameDelivered : Prop :=
  ∀ (dt e : Nat) (s : State), let u := advance dt s
    let c := u.cap.sense
    let f : Frame := { durations := c.buffer, start := stampOf c.frameStart, stop := stampOf e }
    let idle : Context := { c.enterIdle .sense u.opc.params u.cap.rxs with measure := false }
    let left : Context :=
      match c.mark with
      | some m =>
        if c.invert = (u.opc.params.senseInvert == 1) then
          { idle with armed := true, mark := some m, entered := false, group := c.group }
        else idle
      | none => idle
    let v : State := { u with cap := { u.cap with sense := left } }
    c.state = .inFrame → c.entered = false → c.gapFrom = some e → c.group = none →
    (e + min (40000 * c.frameGap) 2600000 ≤ u.now →
      (∀ m, c.mark = some m → e + min (40000 * c.frameGap) 2600000 ≤ m + 40 * c.glitchLimit) →
      (attachedTo u .sense = none →
        exec (.frameGapReached dt .sense) s = .next (settleStandby (recognizerTakesFrame f.durations v))) ∧
      (attachedTo u .sense ≠ none → ∃ t, exec (.frameGapReached dt .sense) s = .next (settleStandby t) ∧
        (t = learnTakesFrame .sense f none (recognizerTakesFrame f.durations { v with draws := v.draws + 1 }) ∨
          t = recognizerTakesFrame f.durations (learnTakesFrame .sense f none { v with draws := v.draws + 1 })))) ∧
    (u.now < e + min (40000 * c.frameGap) 2600000 →
      exec (.frameGapReached dt .sense) s = .next (settleStandby u))


/-- R51, R43, R49, R50: on RXL a pulse that begins in IDLE opens a pulse group and its envelope mark, a further pulse within 100 µs is counted,
the end of a pulse adds its width, and 100 µs after the last pulse's end the envelope mark ends at that pulse's end: entered
in a frame with its group kept for the measurement, removed as a candidate; the candidate becomes a mark, and the mark too
long, while a pulse is active at or after its moment; a too long mark fails a session that waits for its first frame.
The rounding and the order of overdue events are the model's (log entries 8 and 12). -/
def Obligations.learnPulsesGroup : Prop :=
  ∀ (dt m e : Nat) (g : PulseGroup) (s : State), let u := advance dt s
    let c := u.cap.learn
    let high : Context → State := fun x => { u with cap := { u.cap with rxl := !c.invert, learn := x } }
    let low : Context → State := fun x => { u with cap := { u.cap with rxl := c.invert, learn := x } }
    let same : Context → State := fun x => { u with cap := { u.cap with learn := x } }
    StandbySettled u →
    (c.state = .idle → c.armed = true → c.mark = none → c.entered = false → c.group = none → u.cap.rxl = c.invert →
      0 < c.glitchLimit →
      exec (.candidateMarkBegins dt .learn) s =
        .next (high { c with mark := some u.now,
                             group := some { count := 1, first := u.now, last := u.now, lastEnd := u.now, widths := 0 } })) ∧
    (c.state = .inFrame → c.mark = some m → c.entered = true → c.group = some g → u.cap.rxl = c.invert →
      u.now < g.lastEnd + 4000 → u.now < m + 2600000 →
      exec (.candidateMarkBegins dt .learn) s =
        .next (high { c with group := some { g with count := g.count + 1, last := u.now } })) ∧
    (c.state = .inFrame → c.mark = some m → c.entered = true → c.group = some g → u.cap.rxl ≠ c.invert →
      u.now < max (m + 2600000) g.last →
      exec (.markEnds dt .learn) s =
        .next (low { c with group := some { g with lastEnd := u.now, widths := g.widths + (u.now - g.last) } })) ∧
    (c.state = .inFrame → c.mark = some m → c.entered = true → c.group = some g → u.cap.rxl = c.invert →
      g.lastEnd + 4000 ≤ u.now →
      exec (.envelopeMarkEnd dt) s =
        .next (same { c with buffer := c.buffer ++ [min 64999 (max 1 ((g.lastEnd - m + 20) / 40))], mark := none,
                             entered := false, lastStart := m, gapFrom := some g.lastEnd, groups := c.groups ++ [g],
                             group := none })) ∧
    (c.state = .idle → c.armed = true → c.mark = some m → c.entered = false → c.group = some g →
      u.cap.rxl = c.invert → g.lastEnd + 4000 ≤ u.now →
      exec (.envelopeMarkEnd dt) s = .next (same { c with mark := none, group := none })) ∧
    (c.group = some g → c.armed = true → u.now < g.lastEnd + 4000 → exec (.envelopeMarkEnd dt) s = .next u) ∧
    (c.state = .idle → c.armed = false → c.quietFrom = some e → u.cap.rxl = c.invert → e + 4000 ≤ u.now →
      exec (.envelopeMarkEnd dt) s = .next (same { c with armed := true, quietFrom := none })) ∧
    (c.state = .idle → c.mark = some m → c.entered = false → c.group = some g → u.cap.rxl ≠ c.invert →
      max (m + 40 * c.glitchLimit) g.last ≤ u.now →
      exec (.glitchLimitReached dt .learn) s =
        .next (same { c with state := .inFrame, entered := true, frameStart := m, buffer := [], groups := [] })) ∧
    (∀ x, c.state = .inFrame → c.mark = some m → c.entered = true → c.group = some g → u.cap.rxl ≠ c.invert →
      max (m + 2600000) g.last ≤ u.now → attachedTo u .learn = some x → x.state = .waitingFirst →
      exec (.longMark dt .learn) s =
        .next (notified (.learnResult x.tag .longMark 0 0 0 0 0)
          { same c.enterOff with lrn := { u.lrn with session := none } })) ∧
    (c.state = .settling → c.gapFrom = some e → u.cap.rxl = c.invert → e + 40000 * c.frameGap ≤ u.now →
      exec (.settlingDone dt .learn) s = .next (same (c.enterIdle .learn u.opc.params u.cap.rxl)))

/-- R46, R47, R52 to R54: a frame on RXL ends with its gap; the measured frame of a session carries its measurement where the carrier is 0 or in a band, and else reaches the
session as CARRIER_OUT_OF_RANGE with the measured value, 10,000 at most; later frames carry none.  The groups of 2 pulses or
more have a mean period, each group's weighted by its pulse count; the carrier is its frequency in units of 100 Hz, halves up,
and the duty 25, 33 or 50 by the mean width of their pulses; with no such group the carrier is 0 and the duty 33.
The measurement of groups whose mean period is 0 is free (log entry 4). -/
def Obligations.learnFrameMeasured : Prop :=
  (∀ (dt e : Nat) (s : State), let u := advance dt s
    let c := u.cap.learn
    c.state = .inFrame → c.entered = false → c.mark = none → c.group = none → c.gapFrom = some e →
    e + min (40000 * c.frameGap) 2600000 ≤ u.now →
    exec (.frameGapReached dt .learn) s =
      .next (settleStandby
        (deliverLearn { durations := c.buffer, start := stampOf c.frameStart, stop := stampOf e }
          (if c.measure then some (measureGroups c.groups) else none)
          { u with cap := { u.cap with
            learn := { c.enterIdle .learn u.opc.params u.cap.rxl with measure := false } } }))) ∧
  (∀ (f : Frame) (m : Measurement) (s : State),
    (m.carrier = 0 ∨ (200 ≤ m.carrier ∧ m.carrier ≤ 600) ∨ (3500 ≤ m.carrier ∧ m.carrier ≤ 5000) →
      deliverLearn f (some m) s = learnTakesFrame .learn f (some m) s) ∧
    (∀ x, attachedTo s .learn = some x → x.state = .waitingFirst →
      ¬(m.carrier = 0 ∨ (200 ≤ m.carrier ∧ m.carrier ≤ 600) ∨ (3500 ≤ m.carrier ∧ m.carrier ≤ 5000)) →
      deliverLearn f (some m) s = failSession x .carrierOutOfRange (min 10000 m.carrier) s) ∧
    deliverLearn f none s = learnTakesFrame .learn f none s) ∧
  (∀ groups : List PulseGroup,
    let gs := groups.filter fun g => decide (2 ≤ g.count)
    let pulses : ℚ := (gs.map fun g => (g.count : ℚ)).sum
    let period : ℚ :=
      (gs.map fun g => (g.count : ℚ) * (((g.last - g.first : Nat) : ℚ) / ((g.count : ℚ) - 1))).sum / pulses
    let width : ℚ := (gs.map fun g => (g.widths : ℚ)).sum / pulses
    let percent : ℚ := 100 * width / period
    period ≠ 0 →
    measureGroups groups =
      { carrier := ⌊400000 / period + 1 / 2⌋₊
        duty := if percent < 29 then 25 else if percent < 415 / 10 then 33 else 50 }) ∧
  ∀ more : List PulseGroup, (∀ g ∈ more, g.count ≤ 1) → measureGroups more = { carrier := 0, duty := 33 }

/-- R55 to R57: the masking condition puts every context that is not OFF in MASKED with nothing recorded, its working values kept,
and ends a session whose closing mark awaits the frame it discards; its end puts the masked ones in SETTLING.  A CONFIGURE that
takes SENSE_ENABLE from 1 to 0 turns the SENSE context OFF, one that takes it from 0 to 1 has it settle, or mask, with the
working values as they stand at that pair, and one that leaves it leaves the context. -/
def Obligations.maskingDiscardsFrames : Prop :=
  (∀ (s : State),
    let masked : Context → Context := fun c =>
      if c.state = .off then c
      else { c with state := .masked, buffer := [], armed := false, quietFrom := none, mark := none, entered := false,
                    gapFrom := none, group := none, groups := [] }
    let settled : Source → Bool → Context → Context := fun i level c =>
      if c.state = .masked then
        { c with state := .settling, buffer := [], armed := false, quietFrom := none, mark := none, entered := false,
                 gapFrom := if activeLevel i c.invert level then none else some s.now, group := none, groups := [] }
      else c
    (awaiting s .sense = none → awaiting s .learn = none →
      maskingRises s = { s with cap := { s.cap with sense := masked s.cap.sense, learn := masked s.cap.learn } }) ∧
    (∀ x i, awaiting s i = some x → ∃ t, maskingRises s = t ∧ t.cap.sense.state ≠ .inFrame ∧ t.cap.learn.state ≠ .inFrame ∧
      t.lrn.session = none) ∧
    maskingEnds s =
      { s with cap := { s.cap with
        sense := settled .sense s.cap.rxs s.cap.sense, learn := settled .learn s.cap.rxl s.cap.learn } }) ∧
  (∀ (dt v : Nat) (tag : Byte) (p : List Byte) (before after : List (Nat × Nat)) (x : Session) (s : State),
    let u := advance dt s
    let c := u.cap.sense
    let set : List (Nat × Nat) → Params := fun pairs => pairs.foldl (fun q y => q.update y.1 y.2) u.opc.params
    let configured : Context → State := fun c =>
      { answered tag .ok [] u with
        opc := { (found u).opc with params := set (configPairs p) }
        cap := { u.cap with sense := c } }
    let off : Context :=
      { c with state := .off, buffer := [], armed := false, quietFrom := none, mark := none, entered := false,
               gapFrom := none, measure := false, group := none, groups := [] }
    let entered : CtxState → Option Nat → Context := fun st gap =>
      { c with state := st, buffer := [], frameGap := (set before).frameGap, glitchLimit := (set before).glitchLimit,
               invert := (set before).senseInvert == 1, armed := false, quietFrom := none, mark := none,
               entered := false, gapFrom := gap, group := none, groups := [] }
    PortReady .configure u → p.length ≤ 42 → p.length % 3 = 0 → configPairs p = before ++ (0x0B, v) :: after →
    (∀ y ∈ configPairs p, paramOk y.1 y.2 = true) → (∀ y ∈ before ++ after, y.1 ≠ 0x0B) →
    (u.opc.params.senseEnable = 1 → v = 0 → awaiting u .sense = none →
      exec (.configure dt tag p) s = .next (configured off)) ∧
    (u.opc.params.senseEnable = 1 → v = 0 → awaiting u .sense = some x →
      exec (.configure dt tag p) s = .next (reduceSession x (configured off))) ∧
    (u.opc.params.senseEnable = 0 → v = 1 → maskingPresent u = false →
      exec (.configure dt tag p) s =
        .next (configured
          (entered .settling (if u.cap.rxs = ((set before).senseInvert == 1) then none else some u.now)))) ∧
    (u.opc.params.senseEnable = 0 → v = 1 → maskingPresent u = true →
      exec (.configure dt tag p) s = .next (configured (entered .masked none))) ∧
    (u.opc.params.senseEnable = v → exec (.configure dt tag p) s = .next (configured c)))

/-! ### Learning -/

/-- R58, R62 to R64, R70, R71, R76: LEARN_START is refused for a bad argument, then while a session runs; otherwise a session
begins with its window, the staged record becomes EMPTY, and a session of the source LEARN brings its context to IDLE, or to
MASKED while the masking condition is present, with the measure flag set.  LEARN_STOP is refused with no session, ends a session that waits for its first frame with STOPPED, and
reduces the frames of one that collects; READ_STAGED answers the staged record in its wire form. -/
def Obligations.learnRequests : Prop :=
  (∀ (dt : Nat) (tag source window : Byte) (hint : Word16) (s : State), let u := advance dt s
    let hintOk : Prop :=
      hint.toNat = 0 ∨ (200 ≤ hint.toNat ∧ hint.toNat ≤ 600) ∨ (3500 ≤ hint.toNat ∧ hint.toNat ≤ 5000)
    let seconds : Nat := if window = 0 then u.opc.params.learnWindow else window.toNat
    let session : Source → Session := fun i =>
      { state := .waitingFirst, source := i, hint := hint.toNat, start := BitVec.ofNat 32 (u.now / 40), tag := tag,
        windowDue := some (u.now + 40000000 * seconds), gapExpiry := none, closing := false, frames := [],
        measurement := none }
    PortReady .learnStart u →
    (source.toNat ≥ 2 ∨ window.toNat > 60 ∨ ¬hintOk →
      exec (.learnStart dt tag source window hint) s = .next (answered tag .badArgument [] u)) ∧
    (source.toNat < 2 → window.toNat ≤ 60 → hintOk → u.lrn.session ≠ none →
      exec (.learnStart dt tag source window hint) s = .next (answered tag .learnActive [] u)) ∧
    (source = 0x01 → window.toNat ≤ 60 → hintOk → u.lrn.session = none →
      exec (.learnStart dt tag source window hint) s =
        .next { answered tag .ok [] u with lrn := { session := some (session .sense), staged := none } }) ∧
    (source = 0x00 → window.toNat ≤ 60 → hintOk → u.lrn.session = none → maskingPresent u = false →
      exec (.learnStart dt tag source window hint) s =
        .next { answered tag .ok [] u with
          lrn := { session := some (session .learn), staged := none }
          cap := { u.cap with
            learn := { u.cap.learn.enterIdle .learn u.opc.params u.cap.rxl with measure := true } } }) ∧
    (source = 0x00 → window.toNat ≤ 60 → hintOk → u.lrn.session = none → maskingPresent u = true →
      exec (.learnStart dt tag source window hint) s =
        .next { answered tag .ok [] u with
          lrn := { session := some (session .learn), staged := none }
          cap := { u.cap with
            learn := { u.cap.learn with
              state := .masked, buffer := [], frameGap := u.opc.params.frameGap,
              glitchLimit := u.opc.params.glitchLimit, invert := u.opc.params.learnInvert == 1, armed := false,
              quietFrom := none, mark := none, entered := false, gapFrom := none, measure := true, group := none,
              groups := [] } } })) ∧
  (∀ (dt : Nat) (tag : Byte) (s : State), let u := advance dt s
    let detached : Session → Cap := fun x =>
      if x.source = .learn then { u.cap with learn := u.cap.learn.enterOff } else u.cap
    (PortReady .learnStop u →
      (u.lrn.session = none → exec (.learnStop dt tag) s = .next (answered tag .wrongState [] u)) ∧
      (∀ x, u.lrn.session = some x → x.state = .waitingFirst →
        exec (.learnStop dt tag) s =
          .next (notified (.learnResult x.tag .stopped 0 0 0 0 0)
            { answered tag .ok [] u with lrn := { u.lrn with session := none }, cap := detached x })) ∧
      (∀ x why, u.lrn.session = some x → x.state = .collecting → x.reduce = .error why →
        exec (.learnStop dt tag) s =
          .next (notified (.learnResult x.tag why 0 0 0 0 0)
            { answered tag .ok [] u with lrn := { u.lrn with session := none }, cap := detached x })) ∧
      (∀ x r, u.lrn.session = some x → x.state = .collecting → x.reduce = .ok r →
        exec (.learnStop dt tag) s =
          .next (notified (.learnResult x.tag .ok r.carrier r.classes.length r.body.length r.later.length x.frames.length)
            { answered tag .ok [] u with lrn := { session := none, staged := some r }, cap := detached x }))) ∧
    (PortReady .readStaged u →
      (u.lrn.staged = none → exec (.readStaged dt tag) s = .next (answered tag .noStaged [] u)) ∧
      (∀ r, u.lrn.staged = some r →
        exec (.readStaged dt tag) s = .next (answered tag .ok ([0xFF, 0x00] ++ r.wire) u))))


/-- R65, R68, R70: the window's expiry ends a session that waits for its first frame with NO_SIGNAL; the end-gap expiry of one
that collects sets the closing mark while a frame is in progress in its context, and otherwise ends it with reduction; neither
does anything before its moment.
The order of stamps by the sign of their difference is the model's (log entry 22). -/
def Obligations.sessionTimersExpire : Prop :=
  ∀ (dt d : Nat) (x : Session) (t : Stamp) (s : State), let u := advance dt s
    let detached : Cap := if x.source = .learn then { u.cap with learn := u.cap.learn.enterOff } else u.cap
    u.lrn.session = some x →
    (x.state = .waitingFirst → x.windowDue = some d → d ≤ u.now →
      exec (.windowExpiry dt) s =
        .next (notified (.learnResult x.tag .noSignal 0 0 0 0 0)
          { u with lrn := { u.lrn with session := none }, cap := detached })) ∧
    (x.state = .collecting ∨ x.windowDue = none ∨ (x.windowDue = some d ∧ u.now < d) →
      exec (.windowExpiry dt) s = .next u) ∧
    (x.state = .collecting → x.gapExpiry = some t → (BitVec.ofNat 32 (u.now / 40) - t).msb = false →
      (u.cap.context x.source).state = .inFrame →
      exec (.endGapExpiry dt) s =
        .next { u with lrn := { u.lrn with session := some { x with closing := true } } }) ∧
    (∀ why, x.state = .collecting → x.gapExpiry = some t → (BitVec.ofNat 32 (u.now / 40) - t).msb = false →
      (u.cap.context x.source).state ≠ .inFrame → x.reduce = .error why →
      exec (.endGapExpiry dt) s =
        .next (notified (.learnResult x.tag why 0 0 0 0 0)
          { u with lrn := { u.lrn with session := none }, cap := detached })) ∧
    (∀ r, x.state = .collecting → x.gapExpiry = some t → (BitVec.ofNat 32 (u.now / 40) - t).msb = false →
      (u.cap.context x.source).state ≠ .inFrame → x.reduce = .ok r →
      exec (.endGapExpiry dt) s =
        .next (notified
          (.learnResult x.tag .ok r.carrier r.classes.length r.body.length r.later.length x.frames.length)
          { u with lrn := { session := none, staged := some r }, cap := detached })) ∧
    (x.state = .waitingFirst ∨ x.gapExpiry = none ∨
        (x.gapExpiry = some t ∧ (BitVec.ofNat 32 (u.now / 40) - t).msb = true) →
      exec (.endGapExpiry dt) s = .next u)

/-- R66, R67, R69: a frame that began before the session is passed over; the first other is F1 and the session collects, its
end-gap timer set from the frame's end; in COLLECTING a frame that began before the expiry joins the set and clears the
closing mark, one that began later only restarts the timer, and the fourth ends the session; a capture error ends a session that
waits for its first frame and restarts the timer of one that collects; an idle unit passes all over (the expiry not having
passed at the delivery).
The order of stamps by the sign of their difference, the closing mark cleared by a capture error, and the mark that a frame which
is not good leaves set, are the model's (log entries 9, 22 and 37). -/
def Obligations.sessionTakesFrames : Prop :=
  ∀ (x : Session) (f : Frame) (m : Option Measurement) (t : Stamp) (s : State),
    let next : Stamp := f.stop + BitVec.ofNat 32 (1000 * s.opc.params.learnEndGap)
    let notYet : Prop := (BitVec.ofNat 32 (s.now / 40) - next).msb = true
    (∀ input, s.lrn.session = none → learnTakesFrame input f m s = s) ∧
    (s.lrn.session = some x → x.state = .waitingFirst → (f.start - x.start).msb = true →
      learnTakesFrame x.source f m s = s) ∧
    (s.lrn.session = some x → x.state = .waitingFirst → (f.start - x.start).msb = false → notYet →
      learnTakesFrame x.source f m s =
        { s with lrn := { s.lrn with
          session := some { x with state := .collecting, windowDue := none, gapExpiry := some next, frames := [f],
                                   measurement := m } } }) ∧
    (s.lrn.session = some x → x.state = .collecting → x.gapExpiry = some t → (f.start - t).msb = true → notYet →
      x.frames.length < 3 →
      learnTakesFrame x.source f m s =
        { s with lrn := { s.lrn with
          session := some { x with gapExpiry := some next, frames := x.frames ++ [f], closing := false } } }) ∧
    (s.lrn.session = some x → x.state = .collecting → x.gapExpiry = some t → (f.start - t).msb = false → notYet →
      x.frames.length < 4 →
      learnTakesFrame x.source f m s =
        { s with lrn := { s.lrn with session := some { x with gapExpiry := some next } } }) ∧
    (s.lrn.session = some x → x.state = .collecting → x.gapExpiry = some t → (f.start - t).msb = true →
      x.frames.length = 3 →
      learnTakesFrame x.source f m s =
        reduceSession { x with gapExpiry := some next, frames := x.frames ++ [f], closing := false } s) ∧
    (∀ y, (reduceSession y s).lrn.session = none) ∧
    (∀ input why stamp, s.lrn.session = none → learnTakesError input why stamp s = s) ∧
    (∀ why stamp, s.lrn.session = some x → x.state = .waitingFirst →
      learnTakesError x.source why stamp s = failSession x why.outcome why.figure s) ∧
    (∀ why stamp, s.lrn.session = some x → x.state = .collecting →
      (BitVec.ofNat 32 (s.now / 40) - (stamp + BitVec.ofNat 32 (1000 * s.opc.params.learnEndGap))).msb = true →
      learnTakesError x.source why stamp s =
        { s with lrn := { s.lrn with
          session := some { x with
            gapExpiry := some (stamp + BitVec.ofNat 32 (1000 * s.opc.params.learnEndGap)), closing := false } } })

/-- R75 with R72 to R74: a record reduced from frames of 1 to 192 marks whose durations lie within 1 to 64,999 µs, and a carrier
and duty that passed their checks, meets every check of Table 2-2; its classes ascend strictly and its minimum frames is 1. -/
def Obligations.reducedRecordIsValid : Prop :=
  ∀ (x : Session) (r : Record),
    (∀ f ∈ x.frames, f.durations.length % 2 = 1 ∧ f.durations.length ≤ 383 ∧ ∀ d ∈ f.durations, 1 ≤ d ∧ d ≤ 64999) →
    carrierOk x.carrierDuty.carrier = true →
    x.carrierDuty.duty = 25 ∨ x.carrierDuty.duty = 33 ∨ x.carrierDuty.duty = 50 →
    x.reduce = .ok r →
    recordFault r = none ∧ r.classes.Pairwise (· < ·) ∧ r.minFrames = 1 ∧ r.label = [] ∧
      r.carrier = x.carrierDuty.carrier ∧ r.duty = x.carrierDuty.duty

/-! ### Recognition -/

/-- R83, R84: a frame matches a pair list when it has the list's marks and spaces and each lies within the tolerance of its
class; a press is continued by its own body or repeat part before any body is tried, then the lowest slot whose body
matches is taken, and else the frame is unknown. -/
def Obligations.searchFollowsOrder : Prop :=
  (∀ (tol : Nat) (classes : List Nat) (pairs : List Pair) (d : List Nat),
    matchesList tol classes pairs d = true ↔
      pairs ≠ [] ∧ d.length = (elementClasses pairs).length ∧
        ∀ (i v c : Nat), d[i]? = some v → (elementClasses pairs)[i]? = some c →
          100 * ((v - classes.getD c 0) + (classes.getD c 0 - v)) ≤ tol * classes.getD c 0) ∧
  (∀ (pairs : List Pair) (last : Pair), (∀ q ∈ pairs, q.space ≠ none) → last.space = none →
    (elementClasses (pairs ++ [last])).length = 2 * pairs.length + 1) ∧
  ∀ (r : Rec) (tol : Nat) (d : List Nat) (p : Press) (e : IndexEntry),
    let body : IndexEntry → Prop := fun e => matchesList tol e.classes e.body d = true
    (r.press = some p → Table.get r.index p.slot = some e → body e ∨ matchesList tol e.classes e.later d = true →
      search r tol d = .continuation) ∧
    ((r.press = none ∨
        (r.press = some p ∧ Table.get r.index p.slot = some e ∧ ¬body e ∧ matchesList tol e.classes e.later d = false)) →
      Table.wf r.index = true →
      (∀ slot, search r tol d = .body slot ↔
        (∃ y, Table.get r.index slot = some y ∧ body y) ∧
          ∀ (k : Nat) (y : IndexEntry), Table.get r.index k = some y → body y → slot ≤ k) ∧
      (search r tol d = .unknown ↔ ∀ (k : Nat) (y : IndexEntry), Table.get r.index k = some y → ¬body y))

/-- R87 to R92: a body begins a press with its notification and its timer, and then its route event; a continuation restarts the
timer and counts, with HELD at the multiples of HOLD_REPORT_EVERY below the saturated count; another code's body ends the
press with OTHER_CODE and begins its own; an unknown frame changes nothing but its report.  A release timer that has run out
ends the press: RELEASED with TIMEOUT where notify is set, then the route event, then the press record is IDLE.
The timer counts from the moment the delivery is taken (log entry 35). -/
def Obligations.framesDrivePress : Prop :=
  (∀ (d : List Nat) (slot : Nat) (p : Press) (e : IndexEntry) (s : State),
    let tol := s.opc.params.matchTolerance
    let due := s.now + 40000 * s.opc.params.releaseTimeout
    let begun : State → State := fun s =>
      { s with rcg := { s.rcg with press := some { slot := slot, count := 0, notify := e.notify, due := due } } }
    let counted : State :=
      { s with rcg := { s.rcg with press := some { p with count := min 65535 (p.count + 1), due := due } } }
    (s.rcg.press = none → search s.rcg tol d = .body slot → Table.get s.rcg.index slot = some e → e.notify = true →
      actOnFrame d s = routeEvent slot .pressed (notified (.pressed slot) (begun s))) ∧
    (s.rcg.press = none → search s.rcg tol d = .body slot → Table.get s.rcg.index slot = some e → e.notify = false →
      actOnFrame d s = routeEvent slot .pressed (begun s)) ∧
    (s.rcg.press = some p → search s.rcg tol d = .continuation →
      p.count = 65535 ∨ s.opc.params.holdReportEvery = 0 ∨ (p.count + 1) % s.opc.params.holdReportEvery ≠ 0 →
      actOnFrame d s = counted) ∧
    (s.rcg.press = some p → search s.rcg tol d = .continuation → p.count < 65535 →
      s.opc.params.holdReportEvery ≠ 0 → (p.count + 1) % s.opc.params.holdReportEvery = 0 →
      actOnFrame d s =
        routeEvent p.slot .held (if p.notify then notified (.held p.slot (p.count + 1)) counted else counted)) ∧
    (s.rcg.press = some p → search s.rcg tol d = .body slot →
      actOnFrame d s =
        beginPress slot
          { routeEvent p.slot .released
              (if p.notify then notified (.released p.slot p.count .otherCode) s else s) with
            rcg := { s.rcg with press := none } }) ∧
    (search s.rcg tol d = .unknown → s.opc.params.reportUnknown = 1 → actOnFrame d s = notified (.unknownFrame d) s) ∧
    (search s.rcg tol d = .unknown → s.opc.params.reportUnknown ≠ 1 → actOnFrame d s = s)) ∧
  (∀ (dt : Nat) (p : Press) (s : State), let u := advance dt s
    (u.rcg.press = some p → p.due ≤ u.now →
      exec (.releaseTimerExpiry dt) s =
        .next (settleStandby
          { routeEvent p.slot .released
              (if p.notify then notified (.released p.slot p.count .timeout) u else u) with
            rcg := { u.rcg with press := none } })) ∧
    (u.rcg.press = some p → u.now < p.due → exec (.releaseTimerExpiry dt) s = .next u) ∧
    (u.rcg.press = none → exec (.releaseTimerExpiry dt) s = .next (settleStandby u)))


/-- R96, R97, R186, R187: in STANDBY the lowest slot whose body a frame matches wakes the part where it carries WAKE, the frame
kept and the completion due 2 ms later; any other frame is passed over; in WAKING a frame is kept behind the others; in
MOUNTING none is acted on.
The completion counts from the moment the frame is taken (log entry 35). -/
def Obligations.standbyFramesFiltered : Prop :=
  ∀ (d : List Nat) (slot : Nat) (e : IndexEntry) (s : State),
    (s.opc.state = .standby → firstBody s.opc.params.matchTolerance d s.rcg.index = some (slot, e) → e.wake = true →
      recognizerTakesFrame d s =
        { s with
          rcg := { s.rcg with kept := [d] }
          opc := { s.opc with state := .waking, wake := some (.code slot), wakeDue := s.now + 80000 } }) ∧
    (s.opc.state = .standby → firstBody s.opc.params.matchTolerance d s.rcg.index = some (slot, e) → e.wake = false →
      recognizerTakesFrame d s = s) ∧
    (s.opc.state = .standby → firstBody s.opc.params.matchTolerance d s.rcg.index = none →
      recognizerTakesFrame d s = s) ∧
    (s.opc.state = .waking →
      recognizerTakesFrame d s = { s with rcg := { s.rcg with kept := s.rcg.kept ++ [d] } }) ∧
    (s.opc.state = .mounting → recognizerTakesFrame d s = s) ∧
    (s.opc.state = .awake ∨ s.opc.state = .standbyPending → recognizerTakesFrame d s = actOnFrame d s) ∧
    (Table.wf s.rcg.index = true →
      (firstBody s.opc.params.matchTolerance d s.rcg.index = some (slot, e) ↔
        Table.get s.rcg.index slot = some e ∧ bodyMatches s.opc.params.matchTolerance d e = true ∧
          ∀ (k : Nat) (y : IndexEntry), Table.get s.rcg.index k = some y →
            bodyMatches s.opc.params.matchTolerance d y = true → slot ≤ k))

/-! ### Jobs and queues -/

/-- R100, R106, R107, R174: SEND, HOLD and SEQUENCE are refused for their arguments, then by the admission conditions; admitted,
the job takes the next id, stands at the tail of every queue of its mask, is answered ACCEPTED with that id, and the queues
are examined.  A hold limit of 0 is HOLD_LIMIT as it stands. -/
def Obligations.requestsAdmitJobs : Prop :=
  ∀ (dt : Nat) (tag maskByte slot x : Byte) (p : List Byte) (steps : List Step) (st : Status) (s : State),
    let u := advance dt s
    let mask : Mask := maskByte.setWidth 4
    let admitted : JobKind → State := fun kind =>
      let v := answered tag .accepted [byte (nextId u.ems)] u
      { v with ems := { u.ems with
        jobs := u.ems.jobs ++
          [{ id := nextId u.ems, origin := .host tag, kind := kind, mask := mask, report := true, state := .queued,
             early := false, framesSent := 0, step := 0, deadline := none, play := none }]
        queues := u.ems.queues.mapAll fun e q => if hasEmitter mask e then q ++ [nextId u.ems] else q
        lastId := nextId u.ems } }
    let maskOk : Prop := 1 ≤ maskByte.toNat ∧ maskByte.toNat ≤ 15
    let seconds : Nat := if x = 0 then u.opc.params.holdLimit else x.toNat
    (PortReady .send u →
      (¬maskOk ∨ 128 ≤ slot.toNat ∨ x = 0 →
        exec (.send dt tag maskByte slot x) s = .next (answered tag .badArgument [] u)) ∧
      (maskOk → slot.toNat < 128 → x ≠ 0 → admissionRefusal u mask = some st →
        exec (.send dt tag maskByte slot x) s = .next (answered tag st [] u)) ∧
      (maskOk → slot.toNat < 128 → x ≠ 0 → admissionRefusal u mask = none →
        exec (.send dt tag maskByte slot x) s = .next (examine (admitted (.send slot.toNat x.toNat))))) ∧
    (PortReady .hold u →
      (¬maskOk ∨ 128 ≤ slot.toNat ∨ 121 ≤ x.toNat →
        exec (.hold dt tag maskByte slot x) s = .next (answered tag .badArgument [] u)) ∧
      (maskOk → slot.toNat < 128 → x.toNat ≤ 120 → admissionRefusal u mask = some st →
        exec (.hold dt tag maskByte slot x) s = .next (answered tag st [] u)) ∧
      (maskOk → slot.toNat < 128 → x.toNat ≤ 120 → admissionRefusal u mask = none →
        exec (.hold dt tag maskByte slot x) s = .next (examine (admitted (.hold slot.toNat seconds))))) ∧
    (PortReady .sequence u → 3 ≤ p.length → p.length ≤ 48 →
      (p.length % 3 ≠ 0 → exec (.sequence dt tag (maskByte :: p)) s = .next (answered tag .badLength [] u)) ∧
      (p.length % 3 = 0 → ¬maskOk ∨ sequenceSteps p = none →
        exec (.sequence dt tag (maskByte :: p)) s = .next (answered tag .badArgument [] u)) ∧
      (p.length % 3 = 0 → maskOk → sequenceSteps p = some steps → admissionRefusal u mask = some st →
        exec (.sequence dt tag (maskByte :: p)) s = .next (answered tag st [] u)) ∧
      (p.length % 3 = 0 → maskOk → sequenceSteps p = some steps → admissionRefusal u mask = none →
        exec (.sequence dt tag (maskByte :: p)) s = .next (examine (admitted (.sequence steps)))))

/-- R106 with R99 and R102: an admission is refused by the lowest emitter of its mask that is OFF or in FAULT, then while the job
table is full, then while a queue of its mask is full, and by nothing else. -/
def Obligations.admissionConditions : Prop :=
  ∀ (s : State) (mask : Mask),
    let modeOf : Emitter → ChannelMode := fun e => (s.channels.get e).mode
    let allOn : Prop := ∀ e, hasEmitter mask e = true → modeOf e = .on
    (admissionRefusal s mask = some .emitterOff ↔
      ∃ e, hasEmitter mask e = true ∧ modeOf e = .off ∧
        ∀ e', emitterNumber e' < emitterNumber e → hasEmitter mask e' = true → modeOf e' = .on) ∧
    (admissionRefusal s mask = some .emitterFault ↔
      ∃ e k, hasEmitter mask e = true ∧ modeOf e = .fault k ∧
        ∀ e', emitterNumber e' < emitterNumber e → hasEmitter mask e' = true → modeOf e' = .on) ∧
    (admissionRefusal s mask = some .tableFull ↔ allOn ∧ 32 ≤ s.ems.jobs.length) ∧
    (admissionRefusal s mask = some .queueFull ↔
      allOn ∧ s.ems.jobs.length < 32 ∧ ∃ e, hasEmitter mask e = true ∧ 8 ≤ (s.ems.queues.get e).length) ∧
    (admissionRefusal s mask = none ↔
      allOn ∧ s.ems.jobs.length < 32 ∧ ∀ e, hasEmitter mask e = true → (s.ems.queues.get e).length < 8)

/-- R105: while the job table and the recently-ended list keep their sizes, the id of the next admission is 1 to 255, is carried
by no live job and no entry of the list, and is the first such after the last id allocated, 255 being followed by 1. -/
def Obligations.nextIdIsFreshAndFirst : Prop :=
  ∀ m : Ems, m.jobs.length ≤ 32 → m.recent.length ≤ 8 → m.lastId ≤ 255 →
    let after : Nat → Nat := fun k => (m.lastId + k) % 255 + 1
    1 ≤ nextId m ∧ nextId m ≤ 255 ∧ (∀ j ∈ m.jobs, j.id ≠ nextId m) ∧ (∀ r ∈ m.recent, r.id ≠ nextId m) ∧
    ∃ k, k < 255 ∧ nextId m = after k ∧
      ∀ i, i < k → (∃ j ∈ m.jobs, j.id = after i) ∨ ∃ r ∈ m.recent, r.id = after i

/-- R109, R111, R126, R31: a QUEUED job that heads all its queues activates: a SEND or HOLD takes the slot's committed record as its
snapshot and waits for frame 1 until the latest ready moment, a HOLD with its deadline, an early-released one ENDING; a
SEQUENCE begins with step 1; an EMPTY slot, that of a first SEND step too, ends the job with FAILED(NO_CODE). -/
def Obligations.activationTakesSnapshot : Prop :=
  ∀ (id slot n d : Nat) (j : Job) (steps : List Step) (r : Record) (s : State),
    let changed : (Job → Job) → State := fun f =>
      { s with ems := { s.ems with jobs := s.ems.jobs.map fun k => if k.id = id then f k else k } }
    let start := readyFrom s j.mask s.now
    let waiting : Play := { snapshot := some r, stepFrames := 0, phase := .gap start }
    findJob s id = some j →
    (j.kind = .send slot n ∨ j.kind = .hold slot n → committedRecord s slot = none →
      activate id s = endJob id .failedNoCode s) ∧
    (j.kind = .send slot n → committedRecord s slot = some r → j.early = false →
      ∃ t, activate id s = t ∧ findJob t id = some { j with state := .active, deadline := none, play := some waiting } ∧
        t.ems.queues = s.ems.queues ∧ t.link = s.link ∧ t.channels = s.channels) ∧
    (j.kind = .hold slot n → committedRecord s slot = some r →
      ∃ t, activate id s = t ∧
        findJob t id =
          some { j with state := if j.early then .ending .released else .active
                        deadline := some (s.now + 40000000 * n), play := some waiting } ∧
        t.ems.queues = s.ems.queues ∧ t.link = s.link ∧ t.channels = s.channels) ∧
    (j.kind = .sequence (.pause d :: steps) →
      activate id s =
        changed fun k => { k with
          state := .active, step := 1
          play := some { snapshot := none, stepFrames := 0, phase := .pause (s.now + 40000 * d) } }) ∧
    (j.kind = .sequence (.send slot n :: steps) → committedRecord s slot = some r →
      activate id s = changed fun k => { k with state := .active, step := 1, play := some waiting }) ∧
    (j.kind = .sequence (.send slot n :: steps) → committedRecord s slot = none →
      activate id s = endJob id .failedNoCode (changed fun k => { k with state := .active, step := 1 })) ∧
    (∀ m t, readyFrom s m t = t ∨ ∃ e, hasEmitter m e = true ∧ (s.channels.get e).ready = some (readyFrom s m t)) ∧
    (∀ m t, (∀ e, hasEmitter m e = true → (s.channels.get e).ready = none) → readyFrom s m t = t) ∧
    ∀ m t e, hasEmitter m e = true → (∀ w, (s.channels.get e).ready = some w → w ≤ readyFrom s m t) ∧ t ≤ readyFrom s m t

/-- R110: an examination of the queues activates a QUEUED job that heads every queue of its mask, goes on with the state this
leaves, and ends when no such job is left. -/
def Obligations.examinationIsComplete : Prop :=
  ∀ s : State, firstActivatable (examine s) = none ∧
    (firstActivatable s = none → examine s = s) ∧
    (∀ id, firstActivatable s = some id → examine s = examine (activate id s)) ∧
    (∀ id j, firstActivatable s = none → findJob s id = some j → j.state = .queued → maskEmitters j.mask ≠ [] →
      ∃ e, hasEmitter j.mask e = true ∧ headOf s e ≠ some id) ∧
    ∀ id, firstActivatable s = some id →
      ∃ j e, findJob s id = some j ∧ j.state = .queued ∧ headOf s e = some id ∧
        ∀ e', hasEmitter j.mask e' = true → headOf s e' = some id

/-- R104, R112, R113, R134, R135, R151 and Table 8-4: a job ends in one step: it leaves the job table and every queue, joins the
recently-ended list, which keeps the last 8, raises JOB_END where report is set, and no route entry links to it any more where
a route admitted it.  A job that enters ENDING ends in the same step where its channels stop at once: none left that has not
faulted, in a PAUSE or between two SEND steps, cancelled between frames, or its minimum sent and between frames; a frame in
progress is never cut short by it.  A STOPPED channel whose queue the ended job headed takes part again (R135). -/
def Obligations.jobsStopAndEnd : Prop :=
  (∀ (id : Nat) (why : JobOutcome) (j : Job) (s t : State),
    findJob s id = some j → endJob id why s = t →
    findJob t id = none ∧ (∀ k, k ≠ id → findJob t k = findJob s k) ∧
    (∀ e, t.ems.queues.get e = (s.ems.queues.get e).filter fun k => k != id) ∧
    (t.ems.recent = (s.ems.recent ++ [({ id := id, outcome := why, framesSent := j.framesSent } : Ended)]).drop
      (s.ems.recent.length + 1 - 8)) ∧
    t.link =
      (if j.report then s.link.notify (.jobEnd id why j.framesSent j.origin) else s.link) ∧
    (∀ i, j.origin = .route i → ∀ q ∈ t.routes, q.2.link ≠ some id) ∧
    (∀ tag, j.origin = .host tag → t.routes = s.routes) ∧
    (∀ e, t.channels.get e =
      if (s.ems.queues.get e).head? = some id then { s.channels.get e with stopped := false } else s.channels.get e) ∧
    t.lib = s.lib ∧ t.cap = s.cap ∧ t.lrn = s.lrn ∧ t.rcg = s.rcg ∧ t.opc = s.opc) ∧
  (∀ (id : Nat) (why : JobOutcome) (j : Job) (p : Play) (r : Record) (run : FrameRun) (moment : Nat) (s : State),
    let v : State :=
      { s with ems := { s.ems with
        jobs := s.ems.jobs.map fun k => if k.id = id then { k with state := .ending why } else k } }
    findJob s id = some j → j.play = some p →
    (participants s j = [] → enterEnding id why s = endJob id why v) ∧
    (participants s j ≠ [] → p.phase = .frame run → enterEnding id why s = v) ∧
    (p.phase = .pause moment ∨ p.phase = .stepGap moment → enterEnding id why s = endJob id why v) ∧
    (p.phase = .gap moment → p.snapshot = some r → why = .cancelled ∨ r.minFrames ≤ p.stepFrames → enterEnding id why s = endJob id why v) ∧
    (participants s j ≠ [] → p.phase = .gap moment → p.snapshot = some r → why ≠ .cancelled →
      p.stepFrames < r.minFrames → enterEnding id why s = v) ∧
    (p.snapshot = some r → (stopsAtFrameEnd why p = true ↔ why = .cancelled ∨ r.minFrames ≤ p.stepFrames)))

/-- R114 to R117: CANCEL and RELEASE are answered by the state of the job they name; OK cancels a QUEUED job, marks a QUEUED HOLD
for its activation, and puts an ACTIVE job into ENDING, whose reason then stays.  FLUSH takes every job of the queues of its
mask once, answers how many it cancels or puts into ENDING, and examines the queues once, after all of them; JOB_STATUS reports
a live job, then an ended one, with its 13 bytes, and changes nothing; the step of a QUEUED SEQUENCE is 1 to 16 and otherwise
free (log entry 18). -/
def Obligations.jobRequestsAnswered : Prop :=
  (∀ (dt : Nat) (tag id : Byte) (j : Job) (why : JobOutcome) (s : State), let u := advance dt s
    let n := id.toNat
    let v := answered tag .ok [] u
    (PortReady .cancel u →
      (findJob u n = some j → j.state = .queued →
        exec (.cancel dt tag id) s = .next (examine (endJob n .cancelled v))) ∧
      (findJob u n = some j → j.state = .active →
        exec (.cancel dt tag id) s = .next (examine (enterEnding n .cancelled v))) ∧
      ((findJob u n = some j ∧ j.state = .ending why) ∨ (findJob u n = none ∧ ∃ r ∈ u.ems.recent, r.id = n) →
        exec (.cancel dt tag id) s = .next (answered tag .tooLate [] u)) ∧
      (findJob u n = none → (∀ r ∈ u.ems.recent, r.id ≠ n) →
        exec (.cancel dt tag id) s = .next (answered tag .notFound [] u))) ∧
    (PortReady .release u →
      (findJob u n = some j → j.isHold = false → exec (.release dt tag id) s = .next (answered tag .wrongKind [] u)) ∧
      (findJob u n = some j → j.isHold = true → j.state = .queued →
        exec (.release dt tag id) s =
          .next (examine { v with ems := { u.ems with
            jobs := u.ems.jobs.map fun k => if k.id = n then { k with early := true } else k } })) ∧
      (findJob u n = some j → j.isHold = true → j.state = .active →
        exec (.release dt tag id) s = .next (examine (enterEnding n .released v))) ∧
      ((findJob u n = some j ∧ j.isHold = true ∧ j.state = .ending why) ∨
          (findJob u n = none ∧ ∃ r ∈ u.ems.recent, r.id = n) →
        exec (.release dt tag id) s = .next (answered tag .tooLate [] u)) ∧
      (findJob u n = none → (∀ r ∈ u.ems.recent, r.id ≠ n) →
        exec (.release dt tag id) s = .next (answered tag .notFound [] u)))) ∧
  (∀ (dt : Nat) (tag x : Byte) (j : Job) (r : Ended) (s : State), let u := advance dt s
    let mask : Mask := x.setWidth 4
    let targets := flushTargets u mask
    (PortReady .flush u →
      (x = 0 ∨ 16 ≤ x.toNat → exec (.flush dt tag x) s = .next (answered tag .badArgument [] u)) ∧
      (1 ≤ x.toNat → x.toNat ≤ 15 →
        exec (.flush dt tag x) s =
          .next (examine
            (targets.foldl (fun t id => cancelJob id t) (answered tag .ok [byte targets.length] u))))) ∧
    (∀ id, id ∈ targets ↔
      (∃ e, hasEmitter mask e = true ∧ id ∈ u.ems.queues.get e) ∧
        ∃ k, findJob u id = some k ∧ (k.state = .queued ∨ k.state = .active)) ∧
    targets.Nodup ∧
    (PortReady .jobStatus u →
      (findJob u x.toNat = some j →
        ∃ k : Byte,
          (∀ steps, j.kind = .sequence steps →
            if j.state = .queued then 1 ≤ k.toNat ∧ k.toNat ≤ 16 else k = byte j.step) ∧
          ((∀ steps, j.kind ≠ .sequence steps) → k = 0x00) ∧
          exec (.jobStatus dt tag x) s =
            .next (answered tag .ok
              ([j.state.code, j.kind.code] ++ j.origin.bytes ++ [j.mask.setWidth 8, reasonByte j.state] ++
                word j.framesSent ++ [k, positionByte u j .e0, positionByte u j .e1, positionByte u j .e2,
                positionByte u j .e3]) u)) ∧
      (findJob u x.toNat = none → findEnded u x.toNat = some r →
        exec (.jobStatus dt tag x) s =
          .next (answered tag .ok
            ([0x03, 0x00, 0x00, 0x00, 0x00, r.outcome.code] ++ word r.framesSent ++ [0x00, 0xFF, 0xFF, 0xFF, 0xFF]) u)) ∧
      (findJob u x.toNat = none → findEnded u x.toNat = none →
        exec (.jobStatus dt tag x) s = .next (answered tag .notFound [] u))))



/-- R118, R119, R125 and Table 7-5: the five actions of EMITTER_CONTROL in every channel state: DISABLE fails the QUEUED jobs of the
queue and takes the channel out of use, BUSY and FAULT refusing it; ENABLE returns it; CLEAR_FAULT ends a fault, leaving the
channel STOPPED while its job lives; NEAR_ON and NEAR_OFF set the near flag alone. -/
def Obligations.emitterControlActs : Prop :=
  ∀ (dt : Nat) (tag x : Byte) (e : Emitter) (k : FaultKind) (s : State), let u := advance dt s
    let c := u.channels.get e
    let v := answered tag .ok [] u
    let became : Channel → State := fun c => { v with channels := u.channels.set e c }
    PortReady .emitterControl u →
    (4 ≤ x.toNat →
      ∀ i ∈ [Instr.disable dt tag x, .enable dt tag x, .clearFault dt tag x, .nearOn dt tag x, .nearOff dt tag x],
        exec i s = .next (answered tag .badArgument [] u)) ∧
    (x.toNat = emitterNumber e →
      (c.mode = .on → u.ems.queues.get e = [] →
        exec (.disable dt tag x) s = .next (examine (became { c with mode := .off }))) ∧
      (channelState u e = .waiting →
        exec (.disable dt tag x) s =
          .next (examine (updateChannel (failQueued e .failedOff v) e fun (c : Channel) => { c with mode := .off }))) ∧
      (channelState u e = .busy → exec (.disable dt tag x) s = .next (answered tag .busy [] u)) ∧
      (c.mode = .off → exec (.disable dt tag x) s = .next v) ∧
      (c.mode = .fault k →
        exec (.disable dt tag x) s = .next (answered tag .wrongState [] u) ∧
          exec (.enable dt tag x) s = .next (answered tag .wrongState [] u)) ∧
      (c.mode = .off → exec (.enable dt tag x) s = .next (became { c with mode := .on })) ∧
      (c.mode = .on → exec (.enable dt tag x) s = .next v) ∧
      (c.mode = .fault k →
        exec (.clearFault dt tag x) s =
          .next (became { c with mode := .on, stopped := !(u.ems.queues.get e).isEmpty })) ∧
      ((∀ k, c.mode ≠ .fault k) → exec (.clearFault dt tag x) s = .next (answered tag .wrongState [] u)) ∧
      exec (.nearOn dt tag x) s = .next (became { c with near := true }) ∧
      exec (.nearOff dt tag x) s = .next (became { c with near := false }))

/-! ### Emission -/

/-- R126, R127, R136, R140, R141: FRAME_START begins mark 0 on every channel taking part, with its check window, its near flag
copied and the mask window of a near frame opened, and raises the masking condition with the first such window; ELEMENT_END
ends a mark or a space on all of them at its nominal end and begins the next element; before its moment neither acts.
Each element is timed from the nominal end of the one before, a check window that falls between two ticks closes at the next, and
one still open runs on beside the new one (log entries 5, 20 and 33). -/
def Obligations.framesPlayInElements : Prop :=
  ∀ (dt id n start d : Nat) (j : Job) (r : Record) (run : FrameRun) (s : State), let u := advance dt s
    let durations := r.frameDurations (n + 1)
    let began : Channel → Nat → Nat → Channel := fun c d at_ =>
      { c with
        drive := some { start := at_, carrier := r.carrier, duty := r.duty, pulses := pulseCount d r.carrier, edge := 1,
                        raised := decide (r.carrier ≠ 0 ∧ nearestPulses d r.carrier = 0) }
        check := (c.check.filter fun t => decide (at_ ≤ t)) ++
          [if 20 ≤ d then at_ + 800 else at_ + driveLength d r.carrier r.duty]
        out := true }
    let opened : Channel → Channel := fun c =>
      { c with frameNear := c.near, window := if c.near then .opened (40000 * u.opc.params.maskTail) else c.window }
    let onAir : PlayPhase → (Channel → Channel) → State := fun ph f =>
      { u with
        ems := { u.ems with
          jobs := u.ems.jobs.map fun k =>
            if k.id = id then { k with play := k.play.map fun p => { p with phase := ph } } else k }
        channels := u.channels.mapAll fun e c => if e ∈ participants u j then f c else c }
    findJob u id = some j →
    (j.play = some { snapshot := some r, stepFrames := n, phase := .gap start } → durations.head? = some d →
      start ≤ u.now →
      let t := onAir (.frame { start := start, element := 0, stop := start + 40 * d }) fun c => began (opened c) d start
      exec (.frameStart dt id) s = .next (if maskingPresent u = false ∧ maskingPresent t = true then maskingRises t else t)) ∧
    (j.play = some { snapshot := some r, stepFrames := n, phase := .gap start } → u.now < start →
      exec (.frameStart dt id) s = .next u) ∧
    (j.play = some { snapshot := some r, stepFrames := n, phase := .frame run } →
      durations[run.element + 1]? = some d → run.stop ≤ u.now → run.element % 2 = 1 →
      exec (.elementEnd dt id) s =
        .next (onAir (.frame { run with element := run.element + 1, stop := run.stop + 40 * d })
          fun c => began c d run.stop)) ∧
    (j.play = some { snapshot := some r, stepFrames := n, phase := .frame run } →
      durations[run.element + 1]? = some d → run.stop ≤ u.now → run.element % 2 = 0 →
      exec (.elementEnd dt id) s =
        .next (onAir (.frame { run with element := run.element + 1, stop := run.stop + 40 * d })
          fun c => c.endMark run.stop)) ∧
    (j.play = some { snapshot := some r, stepFrames := n, phase := .frame run } →
      durations.length ≤ run.element + 1 ∨ u.now < run.stop →
      exec (.elementEnd dt id) s = .next u)

/-- R128 to R130, R132 to R134, R9, R126: at its end a frame counts, the ready moment of every channel is set, and the job goes on: a SEND
that has sent its frames, the minimum among them, ends DONE; another SEND frame, or the next of an ACTIVE HOLD, starts at the
later of the repeat interval and MIN_FRAME_GAP; a SEND step goes on likewise, and after it the job waits MIN_FRAME_GAP for the
next SEND step, begins a PAUSE step at the frame end, or ends; a job in ENDING stops or goes on; then the queues are examined. -/
def Obligations.frameEndCounts : Prop :=
  ∀ (dt id n slot asked : Nat) (why : JobOutcome) (j : Job) (r : Record) (run : FrameRun) (s : State),
    let u := advance dt s
    let counted : PlayPhase → State := fun ph =>
      { u with
        ems := { u.ems with
          jobs := u.ems.jobs.map fun k =>
            if k.id = id then
              { k with
                framesSent := min 65535 (k.framesSent + 1)
                play := some { snapshot := some r, stepFrames := n + 1, phase := ph } }
            else k }
        channels := u.channels.mapAll fun e c =>
          if e ∈ participants u j then c.frameEnds u.opc.params.minFrameGap run.stop else c }
    let pausing : Nat → State := fun d =>
      { counted (.frame run) with
        ems := { u.ems with
          jobs := u.ems.jobs.map fun k =>
            if k.id = id then
              { k with
                framesSent := min 65535 (k.framesSent + 1)
                step := j.step + 1
                play := some { snapshot := none, stepFrames := 0, phase := .pause (run.stop + 40000 * d) } }
            else k } }
    let ended := counted (.frame run)
    let next := counted (.gap (max (run.start + 40000 * r.interval) (run.stop + 40000 * u.opc.params.minFrameGap)))
    findJob u id = some j → j.play = some { snapshot := some r, stepFrames := n, phase := .frame run } →
    run.element + 1 = (r.frameDurations (n + 1)).length →
    (run.stop ≤ u.now → participants u j ≠ [] →
      (j.state = .active → j.kind = .send slot asked → max asked r.minFrames ≤ n + 1 →
        exec (.frameEnd dt id) s = .next (settleStandby (examine (endJob id .done ended)))) ∧
      (j.state = .active → j.kind = .send slot asked → n + 1 < max asked r.minFrames →
        exec (.frameEnd dt id) s = .next (examine next)) ∧
      (j.state = .active → j.kind = .hold slot asked → exec (.frameEnd dt id) s = .next (examine next)) ∧
      (j.state = .ending why → why = .cancelled ∨ r.minFrames ≤ n + 1 →
        exec (.frameEnd dt id) s = .next (settleStandby (examine (endJob id why ended)))) ∧
      (j.state = .ending why → why ≠ .cancelled → n + 1 < r.minFrames →
        exec (.frameEnd dt id) s = .next (examine next)) ∧
      (∀ steps, j.state = .active → j.kind = .sequence steps → steps[j.step - 1]? = some (.send slot asked) →
        (n + 1 < max asked r.minFrames → exec (.frameEnd dt id) s = .next (examine next)) ∧
        (∀ slot' frames', max asked r.minFrames ≤ n + 1 → steps[j.step]? = some (.send slot' frames') →
          exec (.frameEnd dt id) s =
            .next (examine (counted (.stepGap (run.stop + 40000 * u.opc.params.minFrameGap))))) ∧
        (∀ d, max asked r.minFrames ≤ n + 1 → steps[j.step]? = some (.pause d) →
          exec (.frameEnd dt id) s = .next (examine (pausing d))) ∧
        (max asked r.minFrames ≤ n + 1 → steps[j.step]? = none →
          exec (.frameEnd dt id) s = .next (settleStandby (examine (endJob id .done ended)))))) ∧
    (u.now < run.stop → exec (.frameEnd dt id) s = .next u) ∧
    ∀ (c : Channel) (gap moment : Nat), (c.frameEnds gap moment).ready = some (moment + 40000 * gap)

/-- R131 to R133: a PAUSE that has run its time, and a SEND step whose gap has passed, are followed by the next step, or end the
job DONE after its last; a SEND step takes its snapshot then, an EMPTY slot ending the job; the deadline of an ACTIVE HOLD
puts it into ENDING(HOLD_LIMIT); none acts before its moment. -/
def Obligations.stepsAndDeadlines : Prop :=
  ∀ (dt id n stop slot frames ms limit : Nat) (j : Job) (steps : List Step) (snap : Option Record) (r : Record) (s : State),
    let u := advance dt s
    let stepped : Option Record → PlayPhase → State := fun snap ph =>
      { u with ems := { u.ems with
        jobs := u.ems.jobs.map fun k =>
          if k.id = id then
            { k with step := j.step + 1, play := some { snapshot := snap, stepFrames := 0, phase := ph } }
          else k } }
    let atStep : State :=
      { u with ems := { u.ems with
        jobs := u.ems.jobs.map fun k => if k.id = id then { k with step := j.step + 1 } else k } }
    findJob u id = some j →
    (j.kind = .sequence steps → j.play = some { snapshot := snap, stepFrames := n, phase := .pause stop } →
      (stop ≤ u.now → steps[j.step]? = none →
        exec (.pauseEnd dt id) s = .next (settleStandby (examine (endJob id .done u)))) ∧
      (stop ≤ u.now → steps[j.step]? = some (.pause ms) →
        exec (.pauseEnd dt id) s =
          .next (settleStandby (examine (stepped none (.pause (stop + 40000 * ms)))))) ∧
      (stop ≤ u.now → steps[j.step]? = some (.send slot frames) → committedRecord u slot = some r →
        exec (.pauseEnd dt id) s =
          .next (settleStandby (examine (stepped (some r) (.gap (readyFrom u j.mask stop)))))) ∧
      (stop ≤ u.now → steps[j.step]? = some (.send slot frames) → committedRecord u slot = none →
        exec (.pauseEnd dt id) s = .next (settleStandby (examine (endJob id .failedNoCode atStep)))) ∧
      (u.now < stop → exec (.pauseEnd dt id) s = .next u)) ∧
    (j.kind = .sequence steps → j.play = some { snapshot := snap, stepFrames := n, phase := .stepGap stop } →
      (stop ≤ u.now → steps[j.step]? = some (.send slot frames) → committedRecord u slot = some r →
        exec (.sendStepStart dt id) s = .next (settleStandby (examine (stepped (some r) (.gap stop))))) ∧
      (stop ≤ u.now → steps[j.step]? = some (.send slot frames) → committedRecord u slot = none →
        exec (.sendStepStart dt id) s =
          .next (settleStandby (examine (endJob id .failedNoCode atStep)))) ∧
      (u.now < stop → exec (.sendStepStart dt id) s = .next u)) ∧
    (j.kind = .hold slot limit →
      (j.state = .active → j.deadline = some stop → stop ≤ u.now →
        exec (.holdDeadlineExpiry dt id) s = .next (settleStandby (examine (enterEnding id .holdLimit u)))) ∧
      (j.state ≠ .active ∨ j.deadline = none ∨ (j.deadline = some stop ∧ u.now < stop) →
        exec (.holdDeadlineExpiry dt id) s = .next u))

/-- R136 to R138, R120: a check window that closes without current detects OPEN, and overcurrent while the output drives SHORT: the
drive stops, the channel is in FAULT with its kind, its ready moment set where a frame was cut off, EMITTER_FAULT is handed
over, the QUEUED jobs of its queue fail, its head job ends or enters ENDING, and the queues are examined; no fault arises
with the output off or before the window's close.
The row for a window without current, a fault after the frame of a raised pulse, and the fault of a late row taken at the moment
of the row, are the model's (log entries 10, 25 and 35). -/
def Obligations.driveFaultsStopChannel : Prop :=
  ∀ (dt close : Nat) (e : Emitter) (s : State), let u := advance dt s
    let c := u.channels.get e
    let faulted : FaultKind → State := fun k =>
      notified (.emitterFault e k)
        { u with channels := u.channels.set e (c.faults k (playingFrame u e) u.opc.params.minFrameGap u.now) }
    (c.check.head? = some close → close ≤ u.now →
      exec (.openWindowClose dt e) s =
        .next (examine (faultHead e (failQueued e .failedFault (faulted .opened))))) ∧
    (c.check = [] ∨ (c.check.head? = some close ∧ u.now < close) →
      exec (.openWindowClose dt e) s = .next (settleStandby u)) ∧
    (c.out = true →
      exec (.overcurrent dt e) s = .next (examine (faultHead e (failQueued e .failedFault (faulted .short))))) ∧
    (c.out = false → exec (.overcurrent dt e) s = .next (settleStandby u)) ∧
    ∀ (k : FaultKind) (b : Bool) (gap now : Nat),
      (c.faults k b gap now).mode = .fault k ∧ (c.faults k b gap now).out = false ∧
        (c.faults k b gap now).drive = none ∧ (c.faults k b gap now).check = [] ∧
        (c.faults k b gap now).ready = (if b then some (now + 40000 * gap) else c.ready) ∧
        (c.faults k b gap now).near = c.near ∧
        (c.window = .closed → (c.faults k b gap now).window = .closed) ∧
        ∀ tail, c.window = .opened tail →
          (c.faults k b gap now).window = if b then .closing (now + tail) else .opened tail

/-- R8, R127, R141: CARRIER_PULSE_EDGE takes the next edge of the train: pulse k starts (k − 1) periods of 10,000/carrier µs after
the mark and lasts the duty share of one, the output off after the last; MASK_WINDOW_CLOSE closes a window at its moment,
and the masking condition ends with the last.  The count is the nearest whole number of periods, and 1 where that is 0; a
count that was not raised keeps the train inside its mark, and a raised one lasts the duty share of one period.
A moment between two ticks is taken at the next (log entry 33). -/
def Obligations.pulsesFitTheirMark : Prop :=
  (∀ (dt k : Nat) (e : Emitter) (d : Drive) (s : State), let u := advance dt s
    let c := u.channels.get e
    let became : Channel → State := fun x => { u with channels := u.channels.set e x }
    StandbySettled u → c.drive = some d → d.carrier ≠ 0 →
    (d.edge = 2 * k + 1 → k + 1 < d.pulses → (100 * k + d.duty) * 4000 ≤ d.carrier * (u.now - d.start) →
      exec (.carrierPulseEdge dt e) s =
        .next (became { c with drive := some { d with edge := d.edge + 1 }, out := false })) ∧
    (d.edge = 2 * k + 1 → k + 1 = d.pulses → (100 * k + d.duty) * 4000 ≤ d.carrier * (u.now - d.start) →
      exec (.carrierPulseEdge dt e) s = .next (became { c with drive := none, out := false })) ∧
    (d.edge = 2 * k → k * 400000 ≤ d.carrier * (u.now - d.start) →
      exec (.carrierPulseEdge dt e) s =
        .next (became { c with drive := some { d with edge := d.edge + 1 }, out := true })) ∧
    (d.edge = 2 * k → d.carrier * (u.now - d.start) < k * 400000 → exec (.carrierPulseEdge dt e) s = .next u)) ∧
  (∀ (dt t : Nat) (e : Emitter) (s : State), let u := advance dt s
    let v : State := { u with channels := u.channels.set e { u.channels.get e with window := .closed } }
    StandbySettled u → (u.channels.get e).window = .closing t →
    (t ≤ u.now → exec (.maskWindowClose dt e) s = .next (if maskingPresent v then v else maskingEnds v)) ∧
    (u.now < t → exec (.maskWindowClose dt e) s = .next u)) ∧
  ∀ d c duty : Nat, 0 < c → duty ≤ 50 → 1 ≤ d →
    (20000 * pulseCount d c ≤ 2 * d * c + 10000 ∨ pulseCount d c = 1) ∧
    2 * d * c < 20000 * pulseCount d c + 10000 ∧ 1 ≤ pulseCount d c ∧
    (nearestPulses d c ≠ 0 → c ≤ 5000 → driveLength d c duty ≤ 40 * d) ∧
    (nearestPulses d c = 0 → driveLength d c duty * c < duty * 4000 + c)

/-! ### Routes -/

/-- R145, R146, R150: ROUTE_SET checks every argument, releases a linked job, and fills the entry with the unused field at 0 and no
link; ROUTE_CLEAR releases a linked job and empties the entry; ROUTE_READ answers it; an index of 24 or more is refused.  The
release of a linked HOLD is that of a RELEASE: QUEUED it takes its early-release mark, ACTIVE it enters ENDING(RELEASED), ENDING
it is left; then the queues are examined. -/
def Obligations.routeRequestsEditTable : Prop :=
  ∀ (dt : Nat) (tag i source trigger action target mask frames limit report : Byte) (s : State), let u := advance dt s
    let maskOk : Prop := 1 ≤ mask.toNat ∧ mask.toNat ≤ 15
    let common : Prop :=
      i.toNat < 24 ∧ source.toNat < 128 ∧ target.toNat < 128 ∧ source ≠ target ∧ trigger.toNat ≤ 2 ∧ maskOk ∧
        report.toNat ≤ 1
    let sendOk : Prop := action = 0x00 ∧ frames ≠ 0
    let mirrorOk : Prop := action = 0x01 ∧ trigger = 0x00 ∧ limit.toNat ≤ 120
    let trig : Trigger := if trigger = 0x00 then .pressed else if trigger = 0x01 then .held else .released
    let noLink : Prop := ∀ r, Table.get u.routes i.toNat = some r → r.link = none
    let links : Nat → Job → Prop := fun id j =>
      (∃ r, Table.get u.routes i.toNat = some r ∧ r.link = some id) ∧ findJob u id = some j ∧ j.isHold = true
    let v := answered tag .ok [] u
    let released : Nat → Job → State := fun id j =>
      examine
        (match j.state with
          | .queued =>
            { v with ems := { u.ems with
              jobs := u.ems.jobs.map fun k => if k.id = id then { k with early := true } else k } }
          | .active => enterEnding id .released v
          | .ending _ => v)
    let sendEntry : Route :=
      { source := source.toNat, trigger := trig, action := .send, target := target.toNat, mask := mask.setWidth 4,
        frames := frames.toNat, holdLimit := 0, report := decide (report = 0x01), link := none }
    let mirrorEntry : Route :=
      { source := source.toNat, trigger := .pressed, action := .mirror, target := target.toNat,
        mask := mask.setWidth 4, frames := 0, holdLimit := limit.toNat, report := decide (report = 0x01), link := none }
    (PortReady .routeSet u →
      (¬(common ∧ (sendOk ∨ mirrorOk)) →
        exec (.routeSet dt tag i source trigger action target mask frames limit report) s =
          .next (answered tag .badArgument [] u)) ∧
      ∀ r, common → (sendOk ∧ r = sendEntry) ∨ (mirrorOk ∧ r = mirrorEntry) →
        (noLink →
          exec (.routeSet dt tag i source trigger action target mask frames limit report) s =
            .next { v with routes := Table.set u.routes i.toNat r }) ∧
        ∀ id j, links id j →
          exec (.routeSet dt tag i source trigger action target mask frames limit report) s =
            .next { released id j with routes := Table.set (released id j).routes i.toNat r }) ∧
    (PortReady .routeClear u →
      (24 ≤ i.toNat → exec (.routeClear dt tag i) s = .next (answered tag .badArgument [] u)) ∧
      (i.toNat < 24 → noLink →
        exec (.routeClear dt tag i) s = .next { v with routes := Table.erase u.routes i.toNat }) ∧
      (∀ id j, i.toNat < 24 → links id j → Table.wf u.routes = true →
        exec (.routeClear dt tag i) s =
          .next { released id j with routes := Table.erase (released id j).routes i.toNat })) ∧
    (PortReady .routeRead u →
      (24 ≤ i.toNat → exec (.routeRead dt tag i) s = .next (answered tag .badArgument [] u)) ∧
      (i.toNat < 24 → Table.get u.routes i.toNat = none →
        exec (.routeRead dt tag i) s =
          .next (answered tag .ok [i, 0x00, 0x00, 0x00, 0x00, 0x00, 0x00, 0x00, 0x00, 0x00, 0x00] u)) ∧
      (∀ r, i.toNat < 24 → Table.get u.routes i.toNat = some r →
        exec (.routeRead dt tag i) s =
          .next (answered tag .ok
            [i, 0x01, byte r.source, r.trigger.code, r.action.code, byte r.target, r.mask.setWidth 8, byte r.frames,
             byte r.holdLimit, if r.report then 0x01 else 0x00, byte (r.link.getD 0)] u)))

/-- R147 to R150, R152: in AWAKE the entries act in the order of their indices: one whose source and trigger fit asks for a SEND
or, without a link, for a HOLD that becomes its mirror link, a refusal raising ROUTE_DROPPED; RELEASED releases the linked job,
as a RELEASE would, has the queues examined and clears the link; in STANDBY_PENDING only releases are made, and in the other
states nothing.
That the link is set before the examination, and that an entry with a link asks for nothing, are the model's (log entries 28 and 29). -/
def Obligations.routesActOnPresses : Prop :=
  ∀ (slot i : Nat) (kind : Trigger) (r : Route) (st : Status) (s : State),
    let admitted : JobKind → State := fun k =>
      { s with ems := { s.ems with
        jobs := s.ems.jobs ++
          [{ id := nextId s.ems, origin := .route i, kind := k, mask := r.mask, report := r.report, state := .queued,
             early := false, framesSent := 0, step := 0, deadline := none, play := none }]
        queues := s.ems.queues.mapAll fun e q => if hasEmitter r.mask e then q ++ [nextId s.ems] else q
        lastId := nextId s.ems } }
    let limit : Nat := if r.holdLimit = 0 then s.opc.params.holdLimit else r.holdLimit
    let released : Nat → Job → State := fun id j =>
      examine
        (match j.state with
          | .queued =>
            { s with ems := { s.ems with
              jobs := s.ems.jobs.map fun k => if k.id = id then { k with early := true } else k } }
          | .active => enterEnding id .released s
          | .ending _ => s)
    (s.opc.state = .awake → routeEvent slot kind s = (List.range 24).foldl (routeTurn slot kind) s) ∧
    (s.opc.state = .standbyPending →
      routeEvent slot .released s = (List.range 24).foldl (routeReleaseTurn slot) s ∧
        (kind ≠ .released → routeEvent slot kind s = s)) ∧
    (s.opc.state ≠ .awake → s.opc.state ≠ .standbyPending → routeEvent slot kind s = s) ∧
    (Table.get s.routes i = none → routeTurn slot kind s i = s ∧ routeReleaseTurn slot s i = s) ∧
    (Table.get s.routes i = some r →
      (r.source ≠ slot ∨ (r.trigger ≠ kind ∧ kind ≠ .released) → routeTurn slot kind s i = s) ∧
      (r.source = slot → r.trigger = kind → r.link = none → admissionRefusal s r.mask = some st →
        routeTurn slot kind s i = notified (.routeDropped i st) s) ∧
      (r.source = slot → r.trigger = kind → r.link = none → r.action = .send → admissionRefusal s r.mask = none →
        routeTurn slot kind s i = examine (admitted (.send r.target r.frames))) ∧
      (r.source = slot → r.trigger = kind → r.link = none → r.action = .mirror → admissionRefusal s r.mask = none →
        routeTurn slot kind s i =
          examine { admitted (.hold r.target limit) with
            routes := Table.set s.routes i { r with link := some (nextId s.ems) } }) ∧
      (r.source = slot → kind ≠ .released → r.link ≠ none → routeTurn slot kind s i = s) ∧
      (r.source = slot → r.link = none → r.trigger ≠ .released → routeTurn slot .released s i = s) ∧
      (r.source ≠ slot ∨ r.link = none → routeReleaseTurn slot s i = s) ∧
      (∀ id j, r.source = slot → r.link = some id → findJob s id = some j → j.isHold = true →
        routeTurn slot .released s i =
            { released id j with routes := Table.set (released id j).routes i { r with link := none } } ∧
          routeReleaseTurn slot s i = routeTurn slot .released s i))

/-! ### Invariants -/

/-- R15, R16, R80, R144: every step keeps the directory, the pool, the index and the route table in canonical form; and the index
empty until mount has ended, and from then on with one entry for each VALID slot that carries RECOGNIZE and for no other. -/
def Obligations.tablesStayCanonical : Prop :=
  (∀ s t : State, TablesCanonical s → step s = .next t → TablesCanonical t) ∧
  ∀ s t : State, TablesCanonical s → PortFollowsState s → MountFollowsState s → SegmentsPlaced s →
    IndexFollowsDirectory s → step s = .next t → IndexFollowsDirectory t

/-- R170, R181, R185: in every step the link stays CLOSED exactly outside AWAKE and STANDBY_PENDING, nothing that standby waits for
comes up in STANDBY or WAKING, and no step leaves a pending standby with its five conditions met. -/
def Obligations.portFollowsOperatingState : Prop :=
  ∀ s t : State, PortFollowsState s → QuietInStandby s → StandbySettled s → step s = .next t →
    PortFollowsState t ∧ QuietInStandby t ∧ StandbySettled t

/-- R99 to R105, R135, R151: every step keeps the sizes of the job table, the queues and the recently-ended list, gives every live
job its own id, keeps each in exactly the queues of its mask, and has a job in ACTIVE or ENDING at the head of all of them; two
jobs stand in the same order in every queue that holds both; an OFF channel has an empty queue, one in FAULT no job but one in
ENDING, and a STOPPED one such a job at its head; and every mirror link names a live HOLD of its own entry. -/
def Obligations.queuesHoldTheirJobs : Prop :=
  ∀ s t : State, QueuesBounded s → JobsQueued s → QueuesOrdered s → ChannelsFollowQueues s → LinksNameHolds s →
    step s = .next t →
    QueuesBounded t ∧ JobsQueued t ∧ QueuesOrdered t ∧ ChannelsFollowQueues t ∧ LinksNameHolds t

/-- R159, R163, R164: in every step the outbound queue and the reservation hold 32 places at most, the inbound buffer 305 bytes, and
the missed count stays at 255 or below. -/
def Obligations.placesStayBounded : Prop :=
  ∀ s t : State, PlacesBounded s → step s = .next t → PlacesBounded t

/-- R162, R40, R6: the bytes of the outbound queue and of the reservation never exceed 2048, every reply fitting the reply size of
its kind, as the records and frames that a reply can carry stay within the largest wire size. -/
def Obligations.bytesStayBounded : Prop :=
  ∀ s t : State, BytesBounded s → RecordsBounded s → step s = .next t → BytesBounded t ∧ RecordsBounded t

/-- R17: outside MOUNTING each of the 640 segments is in exactly one place: the free set, the chain of one VALID slot, or a chain of
the operation in flight; and mount leads back to that from every cut.  The free set ascends and holds erased segments alone. -/
def Obligations.segmentsStayPlaced : Prop :=
  ∀ s t : State, TablesCanonical s → PortFollowsState s → MountFollowsState s → SegmentsPlaced s → step s = .next t →
    MountFollowsState t ∧ SegmentsPlaced t

/-- Every invariant holds of a new part right after reset, with every block at its reset values, the cause POWER and the address 3Ah.
The straps at 0 and the empty library of the new part, and the working values of a context in OFF, are the model's (log entries
7 and 6). -/
def Obligations.resetMeetsInvariants : Prop :=
  TablesCanonical State.reset ∧ PortFollowsState State.reset ∧ QuietInStandby State.reset ∧ StandbySettled State.reset ∧
    QueuesBounded State.reset ∧ JobsQueued State.reset ∧ QueuesOrdered State.reset ∧ ChannelsFollowQueues State.reset ∧
    LinksNameHolds State.reset ∧ ParamsInRange State.reset ∧ IndexFollowsDirectory State.reset ∧ PlacesBounded State.reset ∧ BytesBounded State.reset ∧
    RecordsBounded State.reset ∧ MountFollowsState State.reset ∧ SegmentsPlaced State.reset ∧
    ResetValues .power 0x3A State.reset
end

