-- ==== Sys2Proof/Laws/State.lean ====
section
/-! SUPPORT. What each update of one block of State leaves in every field, so that no proof unfolds a record update. -/

namespace Sys2Proof.Machine

variable (s : State)

section
variable (x : Nat)
@[simp] theorem State.withNow_now : (s.withNow x).now = x := rfl
@[simp] theorem State.withNow_draws : (s.withNow x).draws = s.draws := rfl
@[simp] theorem State.withNow_pins : (s.withNow x).pins = s.pins := rfl
@[simp] theorem State.withNow_opc : (s.withNow x).opc = s.opc := rfl
@[simp] theorem State.withNow_link : (s.withNow x).link = s.link := rfl
@[simp] theorem State.withNow_lib : (s.withNow x).lib = s.lib := rfl
@[simp] theorem State.withNow_cap : (s.withNow x).cap = s.cap := rfl
@[simp] theorem State.withNow_lrn : (s.withNow x).lrn = s.lrn := rfl
@[simp] theorem State.withNow_rcg : (s.withNow x).rcg = s.rcg := rfl
@[simp] theorem State.withNow_routes : (s.withNow x).routes = s.routes := rfl
@[simp] theorem State.withNow_ems : (s.withNow x).ems = s.ems := rfl
@[simp] theorem State.withNow_channels : (s.withNow x).channels = s.channels := rfl
@[simp] theorem State.withNow_pending : (s.withNow x).pending = s.pending := rfl
@[simp] theorem State.withNow_withNow (y : Nat) : (s.withNow x).withNow y = s.withNow y := rfl
end

section
variable (x : Nat)
@[simp] theorem State.withDraws_now : (s.withDraws x).now = s.now := rfl
@[simp] theorem State.withDraws_draws : (s.withDraws x).draws = x := rfl
@[simp] theorem State.withDraws_pins : (s.withDraws x).pins = s.pins := rfl
@[simp] theorem State.withDraws_opc : (s.withDraws x).opc = s.opc := rfl
@[simp] theorem State.withDraws_link : (s.withDraws x).link = s.link := rfl
@[simp] theorem State.withDraws_lib : (s.withDraws x).lib = s.lib := rfl
@[simp] theorem State.withDraws_cap : (s.withDraws x).cap = s.cap := rfl
@[simp] theorem State.withDraws_lrn : (s.withDraws x).lrn = s.lrn := rfl
@[simp] theorem State.withDraws_rcg : (s.withDraws x).rcg = s.rcg := rfl
@[simp] theorem State.withDraws_routes : (s.withDraws x).routes = s.routes := rfl
@[simp] theorem State.withDraws_ems : (s.withDraws x).ems = s.ems := rfl
@[simp] theorem State.withDraws_channels : (s.withDraws x).channels = s.channels := rfl
@[simp] theorem State.withDraws_pending : (s.withDraws x).pending = s.pending := rfl
@[simp] theorem State.withDraws_withDraws (y : Nat) : (s.withDraws x).withDraws y = s.withDraws y := rfl
end

section
variable (x : Pins)
@[simp] theorem State.withPins_now : (s.withPins x).now = s.now := rfl
@[simp] theorem State.withPins_draws : (s.withPins x).draws = s.draws := rfl
@[simp] theorem State.withPins_pins : (s.withPins x).pins = x := rfl
@[simp] theorem State.withPins_opc : (s.withPins x).opc = s.opc := rfl
@[simp] theorem State.withPins_link : (s.withPins x).link = s.link := rfl
@[simp] theorem State.withPins_lib : (s.withPins x).lib = s.lib := rfl
@[simp] theorem State.withPins_cap : (s.withPins x).cap = s.cap := rfl
@[simp] theorem State.withPins_lrn : (s.withPins x).lrn = s.lrn := rfl
@[simp] theorem State.withPins_rcg : (s.withPins x).rcg = s.rcg := rfl
@[simp] theorem State.withPins_routes : (s.withPins x).routes = s.routes := rfl
@[simp] theorem State.withPins_ems : (s.withPins x).ems = s.ems := rfl
@[simp] theorem State.withPins_channels : (s.withPins x).channels = s.channels := rfl
@[simp] theorem State.withPins_pending : (s.withPins x).pending = s.pending := rfl
@[simp] theorem State.withPins_withPins (y : Pins) : (s.withPins x).withPins y = s.withPins y := rfl
end

section
variable (x : Opc)
@[simp] theorem State.withOpc_now : (s.withOpc x).now = s.now := rfl
@[simp] theorem State.withOpc_draws : (s.withOpc x).draws = s.draws := rfl
@[simp] theorem State.withOpc_pins : (s.withOpc x).pins = s.pins := rfl
@[simp] theorem State.withOpc_opc : (s.withOpc x).opc = x := rfl
@[simp] theorem State.withOpc_link : (s.withOpc x).link = s.link := rfl
@[simp] theorem State.withOpc_lib : (s.withOpc x).lib = s.lib := rfl
@[simp] theorem State.withOpc_cap : (s.withOpc x).cap = s.cap := rfl
@[simp] theorem State.withOpc_lrn : (s.withOpc x).lrn = s.lrn := rfl
@[simp] theorem State.withOpc_rcg : (s.withOpc x).rcg = s.rcg := rfl
@[simp] theorem State.withOpc_routes : (s.withOpc x).routes = s.routes := rfl
@[simp] theorem State.withOpc_ems : (s.withOpc x).ems = s.ems := rfl
@[simp] theorem State.withOpc_channels : (s.withOpc x).channels = s.channels := rfl
@[simp] theorem State.withOpc_pending : (s.withOpc x).pending = s.pending := rfl
@[simp] theorem State.withOpc_withOpc (y : Opc) : (s.withOpc x).withOpc y = s.withOpc y := rfl
end

section
variable (x : Link)
@[simp] theorem State.withLink_now : (s.withLink x).now = s.now := rfl
@[simp] theorem State.withLink_draws : (s.withLink x).draws = s.draws := rfl
@[simp] theorem State.withLink_pins : (s.withLink x).pins = s.pins := rfl
@[simp] theorem State.withLink_opc : (s.withLink x).opc = s.opc := rfl
@[simp] theorem State.withLink_link : (s.withLink x).link = x := rfl
@[simp] theorem State.withLink_lib : (s.withLink x).lib = s.lib := rfl
@[simp] theorem State.withLink_cap : (s.withLink x).cap = s.cap := rfl
@[simp] theorem State.withLink_lrn : (s.withLink x).lrn = s.lrn := rfl
@[simp] theorem State.withLink_rcg : (s.withLink x).rcg = s.rcg := rfl
@[simp] theorem State.withLink_routes : (s.withLink x).routes = s.routes := rfl
@[simp] theorem State.withLink_ems : (s.withLink x).ems = s.ems := rfl
@[simp] theorem State.withLink_channels : (s.withLink x).channels = s.channels := rfl
@[simp] theorem State.withLink_pending : (s.withLink x).pending = s.pending := rfl
@[simp] theorem State.withLink_withLink (y : Link) : (s.withLink x).withLink y = s.withLink y := rfl
end

section
variable (x : Lib)
@[simp] theorem State.withLib_now : (s.withLib x).now = s.now := rfl
@[simp] theorem State.withLib_draws : (s.withLib x).draws = s.draws := rfl
@[simp] theorem State.withLib_pins : (s.withLib x).pins = s.pins := rfl
@[simp] theorem State.withLib_opc : (s.withLib x).opc = s.opc := rfl
@[simp] theorem State.withLib_link : (s.withLib x).link = s.link := rfl
@[simp] theorem State.withLib_lib : (s.withLib x).lib = x := rfl
@[simp] theorem State.withLib_cap : (s.withLib x).cap = s.cap := rfl
@[simp] theorem State.withLib_lrn : (s.withLib x).lrn = s.lrn := rfl
@[simp] theorem State.withLib_rcg : (s.withLib x).rcg = s.rcg := rfl
@[simp] theorem State.withLib_routes : (s.withLib x).routes = s.routes := rfl
@[simp] theorem State.withLib_ems : (s.withLib x).ems = s.ems := rfl
@[simp] theorem State.withLib_channels : (s.withLib x).channels = s.channels := rfl
@[simp] theorem State.withLib_pending : (s.withLib x).pending = s.pending := rfl
@[simp] theorem State.withLib_withLib (y : Lib) : (s.withLib x).withLib y = s.withLib y := rfl
end

section
variable (x : Cap)
@[simp] theorem State.withCap_now : (s.withCap x).now = s.now := rfl
@[simp] theorem State.withCap_draws : (s.withCap x).draws = s.draws := rfl
@[simp] theorem State.withCap_pins : (s.withCap x).pins = s.pins := rfl
@[simp] theorem State.withCap_opc : (s.withCap x).opc = s.opc := rfl
@[simp] theorem State.withCap_link : (s.withCap x).link = s.link := rfl
@[simp] theorem State.withCap_lib : (s.withCap x).lib = s.lib := rfl
@[simp] theorem State.withCap_cap : (s.withCap x).cap = x := rfl
@[simp] theorem State.withCap_lrn : (s.withCap x).lrn = s.lrn := rfl
@[simp] theorem State.withCap_rcg : (s.withCap x).rcg = s.rcg := rfl
@[simp] theorem State.withCap_routes : (s.withCap x).routes = s.routes := rfl
@[simp] theorem State.withCap_ems : (s.withCap x).ems = s.ems := rfl
@[simp] theorem State.withCap_channels : (s.withCap x).channels = s.channels := rfl
@[simp] theorem State.withCap_pending : (s.withCap x).pending = s.pending := rfl
@[simp] theorem State.withCap_withCap (y : Cap) : (s.withCap x).withCap y = s.withCap y := rfl
end

section
variable (x : Lrn)
@[simp] theorem State.withLrn_now : (s.withLrn x).now = s.now := rfl
@[simp] theorem State.withLrn_draws : (s.withLrn x).draws = s.draws := rfl
@[simp] theorem State.withLrn_pins : (s.withLrn x).pins = s.pins := rfl
@[simp] theorem State.withLrn_opc : (s.withLrn x).opc = s.opc := rfl
@[simp] theorem State.withLrn_link : (s.withLrn x).link = s.link := rfl
@[simp] theorem State.withLrn_lib : (s.withLrn x).lib = s.lib := rfl
@[simp] theorem State.withLrn_cap : (s.withLrn x).cap = s.cap := rfl
@[simp] theorem State.withLrn_lrn : (s.withLrn x).lrn = x := rfl
@[simp] theorem State.withLrn_rcg : (s.withLrn x).rcg = s.rcg := rfl
@[simp] theorem State.withLrn_routes : (s.withLrn x).routes = s.routes := rfl
@[simp] theorem State.withLrn_ems : (s.withLrn x).ems = s.ems := rfl
@[simp] theorem State.withLrn_channels : (s.withLrn x).channels = s.channels := rfl
@[simp] theorem State.withLrn_pending : (s.withLrn x).pending = s.pending := rfl
@[simp] theorem State.withLrn_withLrn (y : Lrn) : (s.withLrn x).withLrn y = s.withLrn y := rfl
end

section
variable (x : Rec)
@[simp] theorem State.withRcg_now : (s.withRcg x).now = s.now := rfl
@[simp] theorem State.withRcg_draws : (s.withRcg x).draws = s.draws := rfl
@[simp] theorem State.withRcg_pins : (s.withRcg x).pins = s.pins := rfl
@[simp] theorem State.withRcg_opc : (s.withRcg x).opc = s.opc := rfl
@[simp] theorem State.withRcg_link : (s.withRcg x).link = s.link := rfl
@[simp] theorem State.withRcg_lib : (s.withRcg x).lib = s.lib := rfl
@[simp] theorem State.withRcg_cap : (s.withRcg x).cap = s.cap := rfl
@[simp] theorem State.withRcg_lrn : (s.withRcg x).lrn = s.lrn := rfl
@[simp] theorem State.withRcg_rcg : (s.withRcg x).rcg = x := rfl
@[simp] theorem State.withRcg_routes : (s.withRcg x).routes = s.routes := rfl
@[simp] theorem State.withRcg_ems : (s.withRcg x).ems = s.ems := rfl
@[simp] theorem State.withRcg_channels : (s.withRcg x).channels = s.channels := rfl
@[simp] theorem State.withRcg_pending : (s.withRcg x).pending = s.pending := rfl
@[simp] theorem State.withRcg_withRcg (y : Rec) : (s.withRcg x).withRcg y = s.withRcg y := rfl
end

section
variable (x : List (Nat × Route))
@[simp] theorem State.withRoutes_now : (s.withRoutes x).now = s.now := rfl
@[simp] theorem State.withRoutes_draws : (s.withRoutes x).draws = s.draws := rfl
@[simp] theorem State.withRoutes_pins : (s.withRoutes x).pins = s.pins := rfl
@[simp] theorem State.withRoutes_opc : (s.withRoutes x).opc = s.opc := rfl
@[simp] theorem State.withRoutes_link : (s.withRoutes x).link = s.link := rfl
@[simp] theorem State.withRoutes_lib : (s.withRoutes x).lib = s.lib := rfl
@[simp] theorem State.withRoutes_cap : (s.withRoutes x).cap = s.cap := rfl
@[simp] theorem State.withRoutes_lrn : (s.withRoutes x).lrn = s.lrn := rfl
@[simp] theorem State.withRoutes_rcg : (s.withRoutes x).rcg = s.rcg := rfl
@[simp] theorem State.withRoutes_routes : (s.withRoutes x).routes = x := rfl
@[simp] theorem State.withRoutes_ems : (s.withRoutes x).ems = s.ems := rfl
@[simp] theorem State.withRoutes_channels : (s.withRoutes x).channels = s.channels := rfl
@[simp] theorem State.withRoutes_pending : (s.withRoutes x).pending = s.pending := rfl
@[simp] theorem State.withRoutes_withRoutes (y : List (Nat × Route)) : (s.withRoutes x).withRoutes y = s.withRoutes y := rfl
end

section
variable (x : Ems)
@[simp] theorem State.withEms_now : (s.withEms x).now = s.now := rfl
@[simp] theorem State.withEms_draws : (s.withEms x).draws = s.draws := rfl
@[simp] theorem State.withEms_pins : (s.withEms x).pins = s.pins := rfl
@[simp] theorem State.withEms_opc : (s.withEms x).opc = s.opc := rfl
@[simp] theorem State.withEms_link : (s.withEms x).link = s.link := rfl
@[simp] theorem State.withEms_lib : (s.withEms x).lib = s.lib := rfl
@[simp] theorem State.withEms_cap : (s.withEms x).cap = s.cap := rfl
@[simp] theorem State.withEms_lrn : (s.withEms x).lrn = s.lrn := rfl
@[simp] theorem State.withEms_rcg : (s.withEms x).rcg = s.rcg := rfl
@[simp] theorem State.withEms_routes : (s.withEms x).routes = s.routes := rfl
@[simp] theorem State.withEms_ems : (s.withEms x).ems = x := rfl
@[simp] theorem State.withEms_channels : (s.withEms x).channels = s.channels := rfl
@[simp] theorem State.withEms_pending : (s.withEms x).pending = s.pending := rfl
@[simp] theorem State.withEms_withEms (y : Ems) : (s.withEms x).withEms y = s.withEms y := rfl
end

section
variable (x : PerEmitter Channel)
@[simp] theorem State.withChannels_now : (s.withChannels x).now = s.now := rfl
@[simp] theorem State.withChannels_draws : (s.withChannels x).draws = s.draws := rfl
@[simp] theorem State.withChannels_pins : (s.withChannels x).pins = s.pins := rfl
@[simp] theorem State.withChannels_opc : (s.withChannels x).opc = s.opc := rfl
@[simp] theorem State.withChannels_link : (s.withChannels x).link = s.link := rfl
@[simp] theorem State.withChannels_lib : (s.withChannels x).lib = s.lib := rfl
@[simp] theorem State.withChannels_cap : (s.withChannels x).cap = s.cap := rfl
@[simp] theorem State.withChannels_lrn : (s.withChannels x).lrn = s.lrn := rfl
@[simp] theorem State.withChannels_rcg : (s.withChannels x).rcg = s.rcg := rfl
@[simp] theorem State.withChannels_routes : (s.withChannels x).routes = s.routes := rfl
@[simp] theorem State.withChannels_ems : (s.withChannels x).ems = s.ems := rfl
@[simp] theorem State.withChannels_channels : (s.withChannels x).channels = x := rfl
@[simp] theorem State.withChannels_pending : (s.withChannels x).pending = s.pending := rfl
@[simp] theorem State.withChannels_withChannels (y : PerEmitter Channel) : (s.withChannels x).withChannels y = s.withChannels y := rfl
end

section
variable (x : List Instr)
@[simp] theorem State.withPending_now : (s.withPending x).now = s.now := rfl
@[simp] theorem State.withPending_draws : (s.withPending x).draws = s.draws := rfl
@[simp] theorem State.withPending_pins : (s.withPending x).pins = s.pins := rfl
@[simp] theorem State.withPending_opc : (s.withPending x).opc = s.opc := rfl
@[simp] theorem State.withPending_link : (s.withPending x).link = s.link := rfl
@[simp] theorem State.withPending_lib : (s.withPending x).lib = s.lib := rfl
@[simp] theorem State.withPending_cap : (s.withPending x).cap = s.cap := rfl
@[simp] theorem State.withPending_lrn : (s.withPending x).lrn = s.lrn := rfl
@[simp] theorem State.withPending_rcg : (s.withPending x).rcg = s.rcg := rfl
@[simp] theorem State.withPending_routes : (s.withPending x).routes = s.routes := rfl
@[simp] theorem State.withPending_ems : (s.withPending x).ems = s.ems := rfl
@[simp] theorem State.withPending_channels : (s.withPending x).channels = s.channels := rfl
@[simp] theorem State.withPending_pending : (s.withPending x).pending = x := rfl
@[simp] theorem State.withPending_withPending (y : List Instr) : (s.withPending x).withPending y = s.withPending y := rfl
end

end Sys2Proof.Machine
end

