-- ==== Sys2Proof/Laws/Frames.lean ====
section
/-! SUPPORT. Which blocks of the state each shared operation can change: one lemma for each operation, from which the frame
of every command that uses it follows. -/

namespace Sys2Proof.Machine

/-- A set of blocks of the state. -/
structure Blocks where
  now : Bool := false
  draws : Bool := false
  pins : Bool := false
  opc : Bool := false
  link : Bool := false
  lib : Bool := false
  cap : Bool := false
  lrn : Bool := false
  rcg : Bool := false
  routes : Bool := false
  ems : Bool := false
  channels : Bool := false
  pending : Bool := false

/-- From `s` to `t` no block outside the set changes. -/
structure Changes (b : Blocks) (s t : State) : Prop where
  now : b.now = false → t.now = s.now
  draws : b.draws = false → t.draws = s.draws
  pins : b.pins = false → t.pins = s.pins
  opc : b.opc = false → t.opc = s.opc
  link : b.link = false → t.link = s.link
  lib : b.lib = false → t.lib = s.lib
  cap : b.cap = false → t.cap = s.cap
  lrn : b.lrn = false → t.lrn = s.lrn
  rcg : b.rcg = false → t.rcg = s.rcg
  routes : b.routes = false → t.routes = s.routes
  ems : b.ems = false → t.ems = s.ems
  channels : b.channels = false → t.channels = s.channels
  pending : b.pending = false → t.pending = s.pending

variable {b : Blocks}

theorem Changes.refl (s : State) : Changes b s s :=
  ⟨fun _ => rfl, fun _ => rfl, fun _ => rfl, fun _ => rfl, fun _ => rfl, fun _ => rfl, fun _ => rfl,
    fun _ => rfl, fun _ => rfl, fun _ => rfl, fun _ => rfl, fun _ => rfl, fun _ => rfl⟩

theorem Changes.trans {s t u : State} (h : Changes b s t) (k : Changes b t u) : Changes b s u :=
  ⟨fun e => (k.now e).trans (h.now e),
    fun e => (k.draws e).trans (h.draws e),
    fun e => (k.pins e).trans (h.pins e),
    fun e => (k.opc e).trans (h.opc e),
    fun e => (k.link e).trans (h.link e),
    fun e => (k.lib e).trans (h.lib e),
    fun e => (k.cap e).trans (h.cap e),
    fun e => (k.lrn e).trans (h.lrn e),
    fun e => (k.rcg e).trans (h.rcg e),
    fun e => (k.routes e).trans (h.routes e),
    fun e => (k.ems e).trans (h.ems e),
    fun e => (k.channels e).trans (h.channels e),
    fun e => (k.pending e).trans (h.pending e)⟩

theorem Changes.withNow (h : b.now = true) (s : State) (x : Nat) : Changes b s (s.withNow x) :=
  ⟨fun e => Bool.noConfusion (h.symm.trans e), fun _ => rfl, fun _ => rfl, fun _ => rfl,
    fun _ => rfl, fun _ => rfl, fun _ => rfl, fun _ => rfl, fun _ => rfl,
    fun _ => rfl, fun _ => rfl, fun _ => rfl, fun _ => rfl⟩

theorem Changes.withDraws (h : b.draws = true) (s : State) (x : Nat) : Changes b s (s.withDraws x) :=
  ⟨fun _ => rfl, fun e => Bool.noConfusion (h.symm.trans e), fun _ => rfl, fun _ => rfl,
    fun _ => rfl, fun _ => rfl, fun _ => rfl, fun _ => rfl, fun _ => rfl,
    fun _ => rfl, fun _ => rfl, fun _ => rfl, fun _ => rfl⟩

theorem Changes.withPins (h : b.pins = true) (s : State) (x : Pins) : Changes b s (s.withPins x) :=
  ⟨fun _ => rfl, fun _ => rfl, fun e => Bool.noConfusion (h.symm.trans e), fun _ => rfl,
    fun _ => rfl, fun _ => rfl, fun _ => rfl, fun _ => rfl, fun _ => rfl,
    fun _ => rfl, fun _ => rfl, fun _ => rfl, fun _ => rfl⟩

theorem Changes.withOpc (h : b.opc = true) (s : State) (x : Opc) : Changes b s (s.withOpc x) :=
  ⟨fun _ => rfl, fun _ => rfl, fun _ => rfl, fun e => Bool.noConfusion (h.symm.trans e),
    fun _ => rfl, fun _ => rfl, fun _ => rfl, fun _ => rfl, fun _ => rfl,
    fun _ => rfl, fun _ => rfl, fun _ => rfl, fun _ => rfl⟩

theorem Changes.withLink (h : b.link = true) (s : State) (x : Link) : Changes b s (s.withLink x) :=
  ⟨fun _ => rfl, fun _ => rfl, fun _ => rfl, fun _ => rfl,
    fun e => Bool.noConfusion (h.symm.trans e), fun _ => rfl, fun _ => rfl, fun _ => rfl, fun _ => rfl,
    fun _ => rfl, fun _ => rfl, fun _ => rfl, fun _ => rfl⟩

theorem Changes.withLib (h : b.lib = true) (s : State) (x : Lib) : Changes b s (s.withLib x) :=
  ⟨fun _ => rfl, fun _ => rfl, fun _ => rfl, fun _ => rfl,
    fun _ => rfl, fun e => Bool.noConfusion (h.symm.trans e), fun _ => rfl, fun _ => rfl, fun _ => rfl,
    fun _ => rfl, fun _ => rfl, fun _ => rfl, fun _ => rfl⟩

theorem Changes.withCap (h : b.cap = true) (s : State) (x : Cap) : Changes b s (s.withCap x) :=
  ⟨fun _ => rfl, fun _ => rfl, fun _ => rfl, fun _ => rfl,
    fun _ => rfl, fun _ => rfl, fun e => Bool.noConfusion (h.symm.trans e), fun _ => rfl, fun _ => rfl,
    fun _ => rfl, fun _ => rfl, fun _ => rfl, fun _ => rfl⟩

theorem Changes.withLrn (h : b.lrn = true) (s : State) (x : Lrn) : Changes b s (s.withLrn x) :=
  ⟨fun _ => rfl, fun _ => rfl, fun _ => rfl, fun _ => rfl,
    fun _ => rfl, fun _ => rfl, fun _ => rfl, fun e => Bool.noConfusion (h.symm.trans e), fun _ => rfl,
    fun _ => rfl, fun _ => rfl, fun _ => rfl, fun _ => rfl⟩

theorem Changes.withRcg (h : b.rcg = true) (s : State) (x : Rec) : Changes b s (s.withRcg x) :=
  ⟨fun _ => rfl, fun _ => rfl, fun _ => rfl, fun _ => rfl,
    fun _ => rfl, fun _ => rfl, fun _ => rfl, fun _ => rfl, fun e => Bool.noConfusion (h.symm.trans e),
    fun _ => rfl, fun _ => rfl, fun _ => rfl, fun _ => rfl⟩

theorem Changes.withRoutes (h : b.routes = true) (s : State) (x : List (Nat × Route)) : Changes b s (s.withRoutes x) :=
  ⟨fun _ => rfl, fun _ => rfl, fun _ => rfl, fun _ => rfl,
    fun _ => rfl, fun _ => rfl, fun _ => rfl, fun _ => rfl, fun _ => rfl,
    fun e => Bool.noConfusion (h.symm.trans e), fun _ => rfl, fun _ => rfl, fun _ => rfl⟩

theorem Changes.withEms (h : b.ems = true) (s : State) (x : Ems) : Changes b s (s.withEms x) :=
  ⟨fun _ => rfl, fun _ => rfl, fun _ => rfl, fun _ => rfl,
    fun _ => rfl, fun _ => rfl, fun _ => rfl, fun _ => rfl, fun _ => rfl,
    fun _ => rfl, fun e => Bool.noConfusion (h.symm.trans e), fun _ => rfl, fun _ => rfl⟩

theorem Changes.withChannels (h : b.channels = true) (s : State) (x : PerEmitter Channel) : Changes b s (s.withChannels x) :=
  ⟨fun _ => rfl, fun _ => rfl, fun _ => rfl, fun _ => rfl,
    fun _ => rfl, fun _ => rfl, fun _ => rfl, fun _ => rfl, fun _ => rfl,
    fun _ => rfl, fun _ => rfl, fun e => Bool.noConfusion (h.symm.trans e), fun _ => rfl⟩

theorem Changes.withPending (h : b.pending = true) (s : State) (x : List Instr) : Changes b s (s.withPending x) :=
  ⟨fun _ => rfl, fun _ => rfl, fun _ => rfl, fun _ => rfl,
    fun _ => rfl, fun _ => rfl, fun _ => rfl, fun _ => rfl, fun _ => rfl,
    fun _ => rfl, fun _ => rfl, fun _ => rfl, fun e => Bool.noConfusion (h.symm.trans e)⟩

theorem Changes.ite {s t u : State} {c : Prop} [Decidable c] (h : Changes b s t) (k : Changes b s u) :
    Changes b s (if c then t else u) := by
  split
  · exact h
  · exact k

/-- A list of changes made one after another. -/
theorem Changes.foldl {β : Type} {f : State → β → State} (h : ∀ s x, Changes b s (f s x)) (l : List β) (s : State) :
    Changes b s (l.foldl f s) := by
  induction l generalizing s with
  | nil => exact Changes.refl s
  | cons x l ih => exact (h s x).trans (ih (f s x))

/-! ### The outbound queue -/

/-- A notification reaches the link alone (R164). -/
theorem notify_changes (h : b.link = true) (n : Notification) (s : State) : Changes b s (notify n s) :=
  Changes.withLink h s _

theorem notifyIf_changes (h : b.link = true) (c : Bool) (n : Notification) (s : State) : Changes b s (notifyIf c n s) := by
  unfold notifyIf
  split
  · exact notify_changes h n s
  · exact Changes.refl s

/-- A reply reaches the link alone (R161). -/
theorem reply_changes (h : b.link = true) (tag : Byte) (st : Status) (more : List Byte) (s : State) :
    Changes b s (reply tag st more s) := Changes.withLink h s _

theorem replyStatus_changes (h : b.link = true) (tag : Byte) (st : Status) (s : State) :
    Changes b s (replyStatus tag st s) := Changes.withLink h s _

/-! ### The Capture Unit and the Learn Unit -/

theorem setCtx_changes (h : b.cap = true) (s : State) (input : Source) (x : Context) : Changes b s (setCtx s input x) :=
  Changes.withCap h s _

theorem setSession_changes (h : b.lrn = true) (x : Session) (s : State) : Changes b s (setSession x s) :=
  Changes.withLrn h s _

theorem ctxMasked_changes (h : b.cap = true) (input : Source) (s : State) : Changes b s (ctxMasked input s) := by
  unfold ctxMasked
  split
  · exact Changes.refl s
  · exact setCtx_changes h s _ _

theorem ctxUnmasked_changes (h : b.cap = true) (input : Source) (s : State) : Changes b s (ctxUnmasked input s) := by
  unfold ctxUnmasked
  split
  · exact setCtx_changes h s _ _
  · exact Changes.refl s

theorem detachSession_changes (hl : b.lrn = true) (hc : b.cap = true) (x : Session) (s : State) :
    Changes b s (detachSession x s) := by
  unfold detachSession
  split
  · exact (Changes.withLrn hl s _).trans (setCtx_changes hc _ _ _)
  · exact Changes.withLrn hl s _

/-- What a session's end can change: the session and the staged record, the LEARN context, the link (R70). -/
def Blocks.learning (b : Blocks) : Prop := b.lrn = true ∧ b.cap = true ∧ b.link = true

theorem failSession_changes (h : b.learning) (x : Session) (w : LearnOutcome) (c : Nat) (s : State) :
    Changes b s (failSession x w c s) :=
  (detachSession_changes h.1 h.2.1 x s).trans (notify_changes h.2.2 _ _)

theorem reduceSession_changes (h : b.learning) (x : Session) (s : State) : Changes b s (reduceSession x s) := by
  unfold reduceSession
  split
  · exact failSession_changes h x _ 0 s
  · exact ((detachSession_changes h.1 h.2.1 x s).trans (Changes.withLrn h.1 _ _)).trans (notify_changes h.2.2 _ _)

theorem endGapExpires_changes (h : b.learning) (x : Session) (s : State) : Changes b s (endGapExpires x s) := by
  unfold endGapExpires
  split
  · exact setSession_changes h.1 _ s
  · exact reduceSession_changes h x s

theorem endGapAtOnce_changes (h : b.learning) (x : Session) (s : State) : Changes b s (endGapAtOnce x s) := by
  unfold endGapAtOnce
  split
  · exact endGapExpires_changes h x s
  · exact setSession_changes h.1 x s

/-- A frame delivered to the Learn Unit changes what a session can change (R66, R67). -/
theorem learnTakesFrame_changes (h : b.learning) (input : Source) (f : Frame) (m : Option Measurement) (s : State) :
    Changes b s (learnTakesFrame input f m s) := by
  unfold learnTakesFrame
  split
  · unfold sessionTakesFrame
    split
    · split
      · exact Changes.refl s
      · exact endGapAtOnce_changes h _ s
    · exact Changes.ite (reduceSession_changes h _ s) (endGapAtOnce_changes h _ s)
  · exact Changes.refl s

/-- A capture error delivered to the Learn Unit changes what a session can change (R66, R67). -/
theorem learnTakesError_changes (h : b.learning) (input : Source) (e : CaptureError) (t : Stamp) (s : State) :
    Changes b s (learnTakesError input e t s) := by
  unfold learnTakesError
  split
  · exact Changes.refl s
  · split
    · exact failSession_changes h _ _ _ s
    · exact endGapAtOnce_changes h _ s

theorem discarding_changes (h : b.learning) (input : Source) {f : State → State} (hf : ∀ s, Changes b s (f s)) (s : State) :
    Changes b s (discarding input f s) := by
  unfold discarding
  split
  · exact (hf s).trans (reduceSession_changes h _ _)
  · exact hf s

/-- The rise of the masking condition reaches the contexts, and a session whose frame it discards (R55, R68). -/
theorem maskingRises_changes (h : b.learning) (s : State) : Changes b s (maskingRises s) :=
  (discarding_changes h .sense (ctxMasked_changes h.2.1 .sense) s).trans
    (discarding_changes h .learn (ctxMasked_changes h.2.1 .learn) _)

/-- The end of the masking condition reaches the contexts alone (R56). -/
theorem maskingEnds_changes (h : b.cap = true) (s : State) : Changes b s (maskingEnds s) :=
  (ctxUnmasked_changes h .sense s).trans (ctxUnmasked_changes h .learn _)

/-! ### The Emission Scheduler -/

/-- What the scheduler can change: its own records, the channels, the mirror links, the link (R113). -/
def Blocks.emission (b : Blocks) : Prop := b.ems = true ∧ b.channels = true ∧ b.routes = true ∧ b.link = true

theorem updateJob_changes (h : b.ems = true) (s : State) (id : Nat) (f : Job → Job) : Changes b s (updateJob s id f) :=
  Changes.withEms h s _

theorem updateChannel_changes (h : b.channels = true) (s : State) (e : Emitter) (f : Channel → Channel) :
    Changes b s (updateChannel s e f) := Changes.withChannels h s _

theorem admitJob_changes (h : b.ems = true) (o : Origin) (k : JobKind) (m : Mask) (r : Bool) (s : State) :
    Changes b s (admitJob o k m r s) := Changes.withEms h s _

theorem tellRoutes_changes (h : b.routes = true) (j : Job) (s : State) : Changes b s (tellRoutes j s) := by
  unfold tellRoutes
  split
  · exact Changes.withRoutes h s _
  · exact Changes.refl s

/-- The channels an ended job leaves: those whose queue it headed take part again, the others are as they were (R135). -/
theorem leaveChannels_get (id : Nat) (s : State) (e : Emitter) :
    (leaveChannels id s).channels.get e =
      if headOf s e = some id then { s.channels.get e with stopped := false } else s.channels.get e := by
  cases e <;> rfl

/-- A mark adds its own check window to those still open (R136). -/
theorem mem_startMark_check {c : Channel} {r : Record} {d start t : Nat} :
    t ∈ (c.startMark r d start).check ↔ (t ∈ c.check ∧ start ≤ t) ∨ t = checkClose start d r.carrier r.duty := by
  simp [Channel.startMark]

/-- A delivered space is 1 to 64,999 µs and less than FRAME_GAP (R46). -/
theorem spaceOf_bounds {frameGap : Nat} (h : 1 ≤ frameGap) (ticks : Nat) :
    1 ≤ spaceOf frameGap ticks ∧ spaceOf frameGap ticks ≤ 64999 ∧ spaceOf frameGap ticks < 1000 * frameGap := by
  unfold spaceOf durationOf; omega

/-- The end of a job changes the scheduler, its channels, a mirror link and the link (R113). -/
theorem endJob_changes (h : b.emission) (id : Nat) (o : JobOutcome) (s : State) : Changes b s (endJob id o s) := by
  unfold endJob
  split
  · exact Changes.refl s
  · exact (((Changes.withEms h.1 s _).trans (Changes.withChannels h.2.1 _ _)).trans
      (notifyIf_changes h.2.2.2 _ _ _)).trans (tellRoutes_changes h.2.2.1 _ _)

theorem startStep_changes (h : b.emission) (id k moment : Nat) (a : Bool) (s : State) :
    Changes b s (startStep id k moment a s) := by
  unfold startStep
  split
  · exact Changes.refl s
  · split
    · split
      · exact endJob_changes h _ _ s
      · exact updateJob_changes h.1 s _ _
      · split
        · exact (updateJob_changes h.1 s _ _).trans (endJob_changes h _ _ _)
        · exact updateJob_changes h.1 s _ _
    · exact Changes.refl s

theorem activateSlot_changes (h : b.emission) (id slot : Nat) (l : Option Nat) (s : State) :
    Changes b s (activateSlot id slot l s) := by
  unfold activateSlot
  split
  · exact endJob_changes h _ _ s
  · exact updateJob_changes h.1 s _ _

theorem activate_changes (h : b.emission) (id : Nat) (s : State) : Changes b s (activate id s) := by
  unfold activate
  split
  · exact Changes.refl s
  · split
    · exact activateSlot_changes h _ _ _ s
    · exact activateSlot_changes h _ _ _ s
    · exact (updateJob_changes h.1 s _ _).trans (startStep_changes h _ _ _ _ _)

theorem examineFor_changes (h : b.emission) (n : Nat) (s : State) : Changes b s (examineFor n s) := by
  induction n generalizing s with
  | zero => exact Changes.refl s
  | succ n ih =>
    unfold examineFor
    split
    · exact (activate_changes h _ s).trans (ih _)
    · exact Changes.refl s

/-- An examination of the queues changes what the scheduler can change (R110). -/
theorem examine_changes (h : b.emission) (s : State) : Changes b s (examine s) := examineFor_changes h _ s

theorem enterEnding_changes (h : b.emission) (id : Nat) (w : JobOutcome) (s : State) : Changes b s (enterEnding id w s) := by
  unfold enterEnding
  split
  · exact Changes.refl s
  · exact Changes.ite ((updateJob_changes h.1 s _ _).trans (endJob_changes h _ _ _)) (updateJob_changes h.1 s _ _)

theorem cancelJob_changes (h : b.emission) (id : Nat) (s : State) : Changes b s (cancelJob id s) := by
  unfold cancelJob
  split
  · exact Changes.refl s
  · split
    · exact endJob_changes h _ _ s
    · exact enterEnding_changes h _ _ s
    · exact Changes.refl s

theorem releaseJob_changes (h : b.emission) (id : Nat) (s : State) : Changes b s (releaseJob id s) := by
  unfold releaseJob
  split
  · exact Changes.refl s
  · split
    · split
      · exact updateJob_changes h.1 s _ _
      · exact enterEnding_changes h _ _ s
      · exact Changes.refl s
    · exact Changes.refl s

theorem failQueued_changes (h : b.emission) (e : Emitter) (o : JobOutcome) (s : State) :
    Changes b s (failQueued e o s) := Changes.foldl (fun s id => endJob_changes h id o s) _ s

theorem faultHead_changes (h : b.emission) (e : Emitter) (s : State) : Changes b s (faultHead e s) := by
  unfold faultHead
  split
  · exact Changes.refl s
  · split
    · exact Changes.refl s
    · split
      · exact Changes.refl s
      · exact enterEnding_changes h _ _ s
      · split
        · exact endJob_changes h _ _ s
        · exact Changes.refl s

/-- A drive fault changes the channel and what the scheduler can change (R138, R120). -/
theorem driveFault_changes (h : b.emission) (e : Emitter) (k : FaultKind) (s : State) : Changes b s (driveFault e k s) :=
  (((updateChannel_changes h.2.1 s e _).trans (notify_changes h.2.2.2 _ _)).trans
    ((failQueued_changes h e _ _).trans (faultHead_changes h e _))).trans (examine_changes h _)

/-! ### The Route Table and the Recognizer -/

theorem updateRoute_changes (h : b.routes = true) (s : State) (i : Nat) (f : Route → Route) :
    Changes b s (updateRoute s i f) := by
  unfold updateRoute
  split
  · exact Changes.withRoutes h s _
  · exact Changes.refl s

theorem routeAdmission_changes (h : b.emission) (i : Nat) (r : Route) (s : State) :
    Changes b s (routeAdmission i r s) := by
  unfold routeAdmission
  split
  · exact notify_changes h.2.2.2 _ s
  · dsimp only
    refine Changes.trans ?_ (examine_changes h _)
    split
    · exact (admitJob_changes h.1 _ _ _ _ s).trans (updateRoute_changes h.2.2.1 _ _ _)
    · exact admitJob_changes h.1 _ _ _ _ s

theorem routeRelease_changes (h : b.emission) (i : Nat) (s : State) : Changes b s (routeRelease i s) := by
  unfold routeRelease
  split
  · exact Changes.refl s
  · split
    · exact Changes.refl s
    · exact ((releaseJob_changes h _ s).trans (examine_changes h _)).trans (updateRoute_changes h.2.2.1 _ _ _)

theorem routeTurn_changes (h : b.emission) (slot : Nat) (k : Trigger) (s : State) (i : Nat) :
    Changes b s (routeTurn slot k s i) := by
  unfold routeTurn
  split
  · exact Changes.refl s
  · split
    · exact Changes.refl s
    · split
      · exact routeAdmission_changes h _ _ s
      · split
        · exact routeRelease_changes h _ s
        · exact Changes.refl s

theorem routeReleaseTurn_changes (h : b.emission) (slot : Nat) (s : State) (i : Nat) :
    Changes b s (routeReleaseTurn slot s i) := by
  unfold routeReleaseTurn
  split
  · exact Changes.refl s
  · split
    · exact routeRelease_changes h _ s
    · exact Changes.refl s

/-- A route event changes what the scheduler can change: the press and the index stay (R147, R148). -/
theorem routeEvent_changes (h : b.emission) (slot : Nat) (k : Trigger) (s : State) :
    Changes b s (routeEvent slot k s) := by
  unfold routeEvent
  split
  · exact Changes.foldl (routeTurn_changes h slot k) _ s
  · split
    · exact Changes.foldl (routeReleaseTurn_changes h slot) _ s
    · exact Changes.refl s
  · exact Changes.refl s

/-- What the press machine can change: the press and what a route event can change (R92). -/
def Blocks.pressing (b : Blocks) : Prop := b.rcg = true ∧ b.emission

theorem setPress_changes (h : b.rcg = true) (p : Option Press) (s : State) : Changes b s (setPress p s) :=
  Changes.withRcg h s _

theorem beginPress_changes (h : b.pressing) (slot : Nat) (s : State) : Changes b s (beginPress slot s) :=
  ((setPress_changes h.1 _ s).trans (notifyIf_changes h.2.2.2.2 _ _ _)).trans (routeEvent_changes h.2 _ _ _)

theorem endPress_changes (h : b.pressing) (p : Press) (w : ReleaseReason) (s : State) : Changes b s (endPress p w s) :=
  ((notifyIf_changes h.2.2.2.2 _ _ s).trans (routeEvent_changes h.2 _ _ _)).trans (setPress_changes h.1 _ _)

theorem continuePress_changes (h : b.pressing) (p : Press) (s : State) : Changes b s (continuePress p s) := by
  unfold continuePress
  dsimp only
  split
  · exact ((setPress_changes h.1 _ s).trans (notifyIf_changes h.2.2.2.2 _ _ _)).trans (routeEvent_changes h.2 _ _ _)
  · exact setPress_changes h.1 _ s

/-- A frame acted on in AWAKE or STANDBY_PENDING changes what the press machine can change (R85). -/
theorem actOnFrame_changes (h : b.pressing) (d : List Nat) (s : State) : Changes b s (actOnFrame d s) := by
  unfold actOnFrame
  split
  · exact continuePress_changes h _ s
  · exact Changes.refl s
  · exact beginPress_changes h _ s
  · exact (endPress_changes h _ _ s).trans (beginPress_changes h _ _)
  · exact notifyIf_changes h.2.2.2.2 _ _ s

/-- A delivered SENSE frame changes what the press machine can change and, in STANDBY, the operating state (R96, R97). -/
theorem recognizerTakesFrame_changes (h : b.pressing) (ho : b.opc = true) (d : List Nat) (s : State) :
    Changes b s (recognizerTakesFrame d s) := by
  unfold recognizerTakesFrame
  split
  · exact actOnFrame_changes h d s
  · exact actOnFrame_changes h d s
  · unfold standbyFrame
    split
    · split
      · exact (Changes.withRcg h.1 s _).trans (Changes.withOpc ho _ _)
      · exact Changes.refl s
    · exact Changes.refl s
  · exact Changes.withRcg h.1 s _
  · exact Changes.refl s

theorem actOnKept_changes (h : b.pressing) (s : State) : Changes b s (actOnKept s) :=
  (Changes.withRcg h.1 s _).trans (Changes.foldl (fun s d => actOnFrame_changes h d s) _ _)

/-- Commit news changes the index and what the press machine can change (R82, R93). -/
theorem commitNews_changes (h : b.pressing) (k : NewsKind) (slot : Nat) (new : Option (Record × SlotFlags)) (s : State) :
    Changes b s (commitNews k slot new s) := by
  unfold commitNews
  refine (Changes.withRcg h.1 s { s.rcg with index := indexAfter s.rcg.index k slot new }).trans ?_
  dsimp only
  split
  · exact Changes.refl _
  · split
    · exact Changes.refl _
    · split
      · split
        · exact setPress_changes h.1 _ _
        · exact endPress_changes h _ _ _
      · exact endPress_changes h _ _ _

/-! ### Standby entry -/

/-- Standby entry reaches the operating record and the link (R185). -/
theorem settleStandby_changes (ho : b.opc = true) (hl : b.link = true) (s : State) : Changes b s (settleStandby s) := by
  unfold settleStandby
  split
  · exact (Changes.withOpc ho s _).trans (Changes.withLink hl _ _)
  · exact Changes.refl s

/-- Outside STANDBY_PENDING a step ends without standby entry. -/
theorem settleStandby_of_ne {s : State} (h : s.opc.state ≠ .standbyPending) : settleStandby s = s := by
  simp [settleStandby, h]

/-- While a message waits to be read the link is not at rest, and standby is not entered (R170, R185). -/
theorem settleStandby_of_queue {s : State} (h : s.link.queue ≠ []) : settleStandby s = s := by
  have : readyForStandby s = false := by simp [readyForStandby, linkAtRest, h]
  simp [settleStandby, this]

end Sys2Proof.Machine
end

