-- ==== Sys2Proof/Laws/Requests.lean ====
section
/-! SUPPORT. What a request row comes to when the port takes it at once (R158 to R162, R184): the one lemma through which
every statement about a request goes. -/

namespace Sys2Proof.Machine

/-- With a start between transactions, no transaction ends and standby entry is not due. -/
theorem endTransaction_of_open {u : State} (h : PortOpen u) : endTransaction u = u := by
  obtain ⟨hs, -, -, -, hst⟩ := h
  have h1 : writeEndEvent u = u := by simp [writeEndEvent, hs]
  have h2 : readEndEvent u = u := by simp [readEndEvent, hs]
  rw [endTransaction, h1, h2]
  unfold settleStandby
  split
  · rename_i hc
    exact absurd hc hst
  · rfl

/-- The address of a request is acknowledged. -/
theorem addressEvent_of_open {u : State} (h : PortOpen u) :
    addressEvent u.link.address false u =
      setAck true (u.withLink { u.link with state := .receiving, inbound := [] }) := by
  have h2 : addressEvent u.link.address false u = judgeAddress false u := by
    simp only [addressEvent, endTransaction_of_open h, if_true]
  obtain ⟨hs, -, -, hl, -⟩ := h
  rw [h2]
  unfold judgeAddress
  rw [hs]
  simp [hl]

/-- A request goes back to AWAKE from either open state (R184). -/
theorem found_eq {u : State} (h : PortOpen u) :
    returnToAwake ((setAck true u).withLink { u.link with state := .idle, inbound := [] }) = found u := by
  obtain ⟨-, -, ho, -, -⟩ := h
  cases hu : u.opc.state <;> rw [hu] at ho <;> simp [OpState.isOpen] at ho
  · simp only [returnToAwake, found, setAck, State.withLink, State.withPins, hu]
    rw [if_neg (by decide)]
    rw [← hu]
  · simp only [returnToAwake, found, setAck, State.withLink, State.withPins, hu, State.withOpc, if_true]

/-- A frame that fits is taken in the step of its write's end. -/
theorem arrive_of_fits {f : CheckedFrame} {s : State} (h : s.link.fits f = true) :
    arrive f s = take f (s.withLink { s.link with state := .idle, inbound := [] }) := by
  unfold arrive
  rw [if_pos h]

/-- A frame of one kind that the port can take is passed to its owner, or rejected, in the step of its write. -/
theorem hostRequest_of_ready {k : ReqKind} {u : State} (h : PortReady k u) (tag : Byte) (p : List Byte)
    (hp : lengthFits k p = true) :
    hostRequest k tag p u =
      own u.opc.state k tag p
        (if k = .standby then (setAck true u).withLink { u.link with state := .idle, inbound := [] } else found u) := by
  have hf : (found u) = _ := (found_eq h.1).symm
  obtain ⟨ho, hq, hb⟩ := h
  simp only [hostRequest, addressEvent_of_open ho]
  have hfit : (Link.fits { u.link with
      state := .receiving, inbound := List.take maxInbound (frameBytes k.code tag p) } (checkLength k tag p)) = true := by
    have hheld := ho.2.1
    simp only [Link.fits, checkLength, hp, if_true, CheckedFrame.replySize, Link.freeBytes, Link.freePlaces,
      Link.reservedBytes, Link.reservedPlaces, hheld, Bool.and_eq_true, Bool.or_eq_true, decide_eq_true_eq]
    unfold maxMessages at *
    omega
  have hc : (setAck true (u.withLink { u.link with state := .receiving, inbound := [] })).link.state = .receiving := rfl
  rw [if_pos hc]
  refine (arrive_of_fits ?_).trans ?_
  · exact hfit
  have hl : checkLength k tag p = .good k tag p := by simp [checkLength, hp]
  rw [hl]
  have hsrc : (((setAck true (u.withLink { u.link with state := .receiving, inbound := [] })).withLink
      { (setAck true (u.withLink { u.link with state := .receiving, inbound := [] })).link with
        inbound := (frameBytes k.code tag p).take maxInbound }).withLink
      { ((setAck true (u.withLink { u.link with state := .receiving, inbound := [] })).withLink
          { (setAck true (u.withLink { u.link with state := .receiving, inbound := [] })).link with
            inbound := (frameBytes k.code tag p).take maxInbound }).link with state := .idle, inbound := [] }) =
      (setAck true u).withLink { u.link with state := .idle, inbound := [] } := rfl
  rw [hsrc]
  unfold take
  rw [hf]
  rfl

/-- RESET has no reply, so it is taken whatever space the queue has (R183). -/
theorem hostRequest_reset {u : State} (h : PortOpen u) (tag : Byte) :
    hostRequest .reset tag [] u = resetRequest (found u) := by
  have hf : (found u) = _ := (found_eq h).symm
  simp only [hostRequest, addressEvent_of_open h]
  have hc : (setAck true (u.withLink { u.link with state := .receiving, inbound := [] })).link.state = .receiving := rfl
  rw [if_pos hc]
  have hl : checkLength .reset tag [] = .good .reset tag [] := by rfl
  rw [hl]
  refine (arrive_of_fits (by simp [Link.fits, CheckedFrame.replySize, ReqKind.maxReply])).trans ?_
  rw [hf]
  rfl

/-- A reply made on the state an owner finds. -/
@[simp] theorem reply_found (tag : Byte) (st : Status) (more : List Byte) (u : State) :
    reply tag st more (found u) = answered tag st more u := rfl

@[simp] theorem replyStatus_found (tag : Byte) (st : Status) (u : State) :
    replyStatus tag st (found u) = answered tag st [] u := rfl

/-- An answered request leaves a message waiting, so standby is not entered in its step. -/
@[simp] theorem settleStandby_answered (tag : Byte) (st : Status) (more : List Byte) (u : State) :
    settleStandby (answered tag st more u) = answered tag st more u :=
  settleStandby_of_ne (by simp [answered, found])

/-- The longest notification is an UNKNOWN_FRAME of 16 durations (Table 11-12). -/
theorem notification_size_le (l : Link) (n : Notification) : (l.notification n).size ≤ 40 := by
  have h : ∀ d : List Nat, (d.flatMap word).length = 2 * d.length := by
    intro d
    induction d with
    | nil => rfl
    | cons a d ih => simp only [List.flatMap_cons, List.length_append, ih, List.length_cons]; simp [word]; omega
  simp only [Link.notification, Message.size]
  cases n with
  | unknownFrame d => simp [Notification.fields, h]; omega
  | wake c => cases c <;> simp [Notification.fields]
  | jobEnd i o k g => cases g <;> simp [Notification.fields, word, Origin.bytes]
  | _ => simp [Notification.fields, word]

/-- A notification handed over leaves the link with a message waiting or a frame pending: one that found the queue empty
and nothing reserved has been admitted (R164). -/
theorem linkAtRest_notified (n : Notification) (u : State) : linkAtRest (notified n u) = false := by
  have hs := notification_size_le u.link n
  unfold linkAtRest notified Link.notify
  by_cases ha : u.link.admits n = true
  · simp [ha, Link.append]
  · simp only [ha, Bool.false_eq_true, if_false]
    by_cases hq : u.link.queue = []
    · cases hh : u.link.held with
      | some h => simp
      | none =>
        exfalso
        apply ha
        simp only [Link.admits, Link.freeBytes, Link.freePlaces, Link.reservedBytes, Link.reservedPlaces, hh, hq,
          queueBytes, maxBytes, maxMessages, List.length_nil, decide_eq_true_eq]
        omega
    · simp [hq]

/-- So standby is not entered in the step of a notification. -/
@[simp] theorem settleStandby_notified (n : Notification) (u : State) :
    settleStandby (notified n u) = notified n u := by
  unfold settleStandby readyForStandby
  simp [linkAtRest_notified]

/-- Asking for a byte can do two things: begin an EMPTY frame in a read whose queue is empty, or nothing (R166). -/
theorem Link.asked_cases (l : Link) :
    (l.state = .sending ∧ l.emptyPos = none ∧ l.queue = [] ∧ l.asked = { l with emptyPos := some 0 }) ∨
    (¬(l.state = .sending ∧ l.emptyPos = none ∧ l.queue = []) ∧ l.asked = l) := by
  unfold Link.asked
  split
  · rename_i h
    exact .inl ⟨h.1, h.2.1, h.2.2, rfl⟩
  · rename_i h
    exact .inr ⟨h, rfl⟩

@[simp] theorem Link.asked_queue (l : Link) : l.asked.queue = l.queue := by
  rcases l.asked_cases with ⟨_, _, _, h⟩ | ⟨_, h⟩ <;> rw [h]

@[simp] theorem Link.asked_state (l : Link) : l.asked.state = l.state := by
  rcases l.asked_cases with ⟨_, _, _, h⟩ | ⟨_, h⟩ <;> rw [h]

@[simp] theorem Link.asked_held (l : Link) : l.asked.held = l.held := by
  rcases l.asked_cases with ⟨_, _, _, h⟩ | ⟨_, h⟩ <;> rw [h]

end Sys2Proof.Machine
end

