-- ==== Sys2Proof/Laws/Table.lean ====
section
/-! SUPPORT. The laws of a table in ascending key order: what a read gives after a write, and that every operation keeps the
canonical form. -/

namespace Sys2Proof.Machine

variable {α : Type}

@[simp] theorem Table.get_nil (k : Nat) : Table.get ([] : List (Nat × α)) k = none := rfl

/-- What was put under a key is read there. -/
@[simp] theorem Table.get_set_same (l : List (Nat × α)) (k : Nat) (v : α) : Table.get (Table.set l k v) k = some v := by
  induction l with
  | nil => simp [Table.set, Table.get]
  | cons p rest ih =>
    obtain ⟨a, w⟩ := p
    by_cases h1 : k < a
    · simp [Table.set, Table.get, h1]
    · by_cases h2 : k = a
      · simp [Table.set, Table.get, h2]
      · simp [Table.set, Table.get, h1, h2, ih, Ne.symm h2]

/-- A write leaves every other key alone. -/
theorem Table.get_set_other (l : List (Nat × α)) {k j : Nat} (v : α) (h : j ≠ k) :
    Table.get (Table.set l k v) j = Table.get l j := by
  induction l with
  | nil => simp [Table.set, Table.get, Ne.symm h]
  | cons p rest ih =>
    obtain ⟨a, w⟩ := p
    by_cases h1 : k < a
    · simp [Table.set, Table.get, h1, Ne.symm h]
    · by_cases h2 : k = a
      · subst h2
        simp [Table.set, Table.get, Ne.symm h]
      · simp [Table.set, Table.get, h1, h2, ih]

/-- An erasure leaves every other key alone. -/
theorem Table.get_erase_other (l : List (Nat × α)) {k j : Nat} (h : j ≠ k) :
    Table.get (Table.erase l k) j = Table.get l j := by
  induction l with
  | nil => rfl
  | cons p rest ih =>
    obtain ⟨a, w⟩ := p
    by_cases h2 : a = k
    · simp [Table.erase, Table.get, h2, Ne.symm h]
    · simp [Table.erase, Table.get, h2, ih]

/-- In a canonical table every key of the tail is above the head's. -/
theorem Table.wf_cons {a : Nat} {v : α} {l : List (Nat × α)} :
    Table.wf ((a, v) :: l) = true ↔ (∀ p ∈ l, a < p.1) ∧ Table.wf l = true := by
  induction l generalizing a v with
  | nil => simp [Table.wf]
  | cons p rest ih =>
    obtain ⟨b, w⟩ := p
    simp only [Table.wf, Bool.and_eq_true, decide_eq_true_eq, ih, List.mem_cons, forall_eq_or_imp]
    constructor
    · rintro ⟨h, h2, h3⟩
      exact ⟨⟨h, fun p hp => lt_trans h (h2 p hp)⟩, h2, h3⟩
    · rintro ⟨⟨h, -⟩, h2, h3⟩
      exact ⟨h, h2, h3⟩

/-- A canonical table is one whose keys strictly rise. -/
theorem Table.wf_iff_pairwise (l : List (Nat × α)) :
    Table.wf l = true ↔ l.Pairwise fun p q => p.1 < q.1 := by
  induction l with
  | nil => simp [Table.wf]
  | cons p rest ih => rw [Table.wf_cons, List.pairwise_cons, ih]

/-- The keys of a table after a write. -/
theorem Table.mem_set {l : List (Nat × α)} {k : Nat} {v : α} {p : Nat × α} (h : p ∈ Table.set l k v) :
    p = (k, v) ∨ p ∈ l := by
  induction l with
  | nil => simpa [Table.set] using h
  | cons q rest ih =>
    obtain ⟨a, w⟩ := q
    unfold Table.set at h
    split at h
    · simpa using h
    · split at h
      · rcases List.mem_cons.1 h with h | h
        · exact .inl h
        · exact .inr (List.mem_cons_of_mem _ h)
      · rcases List.mem_cons.1 h with h | h
        · exact .inr (h ▸ List.mem_cons_self)
        · rcases ih h with h | h
          · exact .inl h
          · exact .inr (List.mem_cons_of_mem _ h)

/-- The entries of a table after an erasure. -/
theorem Table.mem_erase {l : List (Nat × α)} {k : Nat} {p : Nat × α} (h : p ∈ Table.erase l k) : p ∈ l := by
  induction l with
  | nil => exact h
  | cons q rest ih =>
    obtain ⟨a, w⟩ := q
    unfold Table.erase at h
    split at h
    · exact List.mem_cons_of_mem _ h
    · rcases List.mem_cons.1 h with h | h
      · exact h ▸ List.mem_cons_self
      · exact List.mem_cons_of_mem _ (ih h)

/-- A write keeps the canonical form. -/
theorem Table.wf_set {l : List (Nat × α)} (h : Table.wf l = true) (k : Nat) (v : α) : Table.wf (Table.set l k v) = true := by
  induction l with
  | nil => rfl
  | cons p rest ih =>
    obtain ⟨a, w⟩ := p
    have h' := Table.wf_cons.1 h
    unfold Table.set
    split
    · rename_i hlt
      refine Table.wf_cons.2 ⟨fun p hp => ?_, h⟩
      rcases List.mem_cons.1 hp with rfl | hp
      · exact hlt
      · exact lt_trans hlt (h'.1 p hp)
    · split
      · rename_i heq
        exact Table.wf_cons.2 ⟨fun p hp => heq ▸ h'.1 p hp, h'.2⟩
      · refine Table.wf_cons.2 ⟨fun p hp => ?_, ih h'.2⟩
        rcases Table.mem_set hp with rfl | hp
        · show a < k
          omega
        · exact h'.1 p hp

/-- An erasure keeps the canonical form. -/
theorem Table.wf_erase {l : List (Nat × α)} (h : Table.wf l = true) (k : Nat) : Table.wf (Table.erase l k) = true := by
  induction l with
  | nil => rfl
  | cons p rest ih =>
    obtain ⟨a, w⟩ := p
    have h' := Table.wf_cons.1 h
    unfold Table.erase
    split
    · exact h'.2
    · exact Table.wf_cons.2 ⟨fun p hp => h'.1 p (Table.mem_erase hp), ih h'.2⟩

/-- What was erased is read no more. -/
theorem Table.get_erase_same {l : List (Nat × α)} (h : Table.wf l = true) (k : Nat) : Table.get (Table.erase l k) k = none := by
  induction l with
  | nil => rfl
  | cons p rest ih =>
    obtain ⟨a, w⟩ := p
    have h' := Table.wf_cons.1 h
    by_cases h2 : a = k
    · subst h2
      have : ∀ m : List (Nat × α), (∀ p ∈ m, a < p.1) → Table.get m a = none := by
        intro m
        induction m with
        | nil => intro _; rfl
        | cons q m ih2 =>
          obtain ⟨b, u⟩ := q
          intro hm
          have hb : a < b := hm (b, u) List.mem_cons_self
          have : b ≠ a := by omega
          simp [Table.get, this, ih2 fun p hp => hm p (List.mem_cons_of_mem _ hp)]
      simp [Table.erase, this rest h'.1]
    · simp [Table.erase, Table.get, h2, ih h'.2]

/-- A table with its values changed under the same keys is canonical when it was. -/
theorem Table.wf_map {β : Type} {l : List (Nat × α)} (f : Nat × α → β) (h : Table.wf l = true) :
    Table.wf (l.map fun p => (p.1, f p)) = true := by
  rw [Table.wf_iff_pairwise] at *
  exact List.pairwise_map.2 h

/-- The entries a function picks from a canonical table, each under its key, are canonical. -/
theorem Table.wf_filterMap {β : Type} {l : List (Nat × α)} (f : Nat × α → Option (Nat × β))
    (hf : ∀ p q, f p = some q → q.1 = p.1) (h : Table.wf l = true) : Table.wf (l.filterMap f) = true := by
  rw [Table.wf_iff_pairwise] at *
  refine List.pairwise_filterMap.2 (h.imp ?_)
  intro p q hpq x hx y hy
  rw [hf p x hx, hf q y hy]
  exact hpq

end Sys2Proof.Machine
end

