-- ==== Sys2Proof/Tests/Slice0.lean ====
section
/-! SUPPORT. The tests: ill-formed commands refused, one or two commands of each row on a small state with the values of
the specification's examples, and for each obligation with hypotheses a concrete state that meets them.  The expected
values come from the specification; the example each follows is named. -/

namespace Sys2Proof.Tests

open Sys2Proof Sys2Proof.Machine

set_option Elab.async false

/-! ### Ill-formed commands -/

theorem test_wellFormed_configure : (Instr.configure 0 1 (List.replicate 301 0)).wellFormed = false := by decide +kernel
theorem test_wellFormed_readConfig : (Instr.readConfig 0 1 (List.replicate 301 0)).wellFormed = false := by decide +kernel
theorem test_wellFormed_store : (Instr.store 0 1 (List.replicate 301 0)).wellFormed = false := by decide +kernel
theorem test_wellFormed_sequence : (Instr.sequence 0 1 (List.replicate 301 0)).wellFormed = false := by decide +kernel
theorem test_wellFormed_payload : (Instr.store 0 1 (List.replicate 300 0)).wellFormed = true := by decide +kernel
theorem test_wellFormed_job :
    (Instr.frameStart 0 0).wellFormed = false ∧ (Instr.elementEnd 0 256).wellFormed = false ∧
      (Instr.frameEnd 0 0).wellFormed = false ∧ (Instr.pauseEnd 0 256).wellFormed = false ∧
      (Instr.sendStepStart 0 0).wellFormed = false ∧ (Instr.holdDeadlineExpiry 0 256).wellFormed = false ∧
      (Instr.frameStart 0 255).wellFormed = true := by decide +kernel
theorem test_wellFormed_decay :
    (Instr.mountScanComplete 0 [(640, List.replicate 32 0)]).wellFormed = false ∧
      (Instr.mountScanComplete 0 [(639, List.replicate 31 0)]).wellFormed = false ∧
      (Instr.mountScanComplete 0 [(639, List.replicate 32 0)]).wellFormed = true := by decide +kernel

/-! ### Small states -/

/-- The state a command leaves. -/
def after (c : Instr) (s : State) : State :=
  match exec c s with
  | .next t => t
  | _ => s

/-- A part that has mounted: AWAKE, the link IDLE, the SENSE context IDLE, five free segments (the five lowest of Section
3.6), 1 s after the reset. -/
def awake : State :=
  { State.reset with
    now := sec 1
    opc := { State.reset.opc with state := .awake }
    link := { State.reset.link with state := .idle }
    lib := { directory := [], pool := [], free := [3, 7, 8, 9, 10], op := none, mount := none }
    cap := { State.reset.cap with sense := Context.reset.enterIdle .sense Params.reset true } }

/-- The TV POWER record of Table 2-6. -/
def tvPower : Record :=
  { carrier := 380, duty := 33, classes := [600, 1800, 2000, 4000, 8000]
    body := ⟨4, some 3⟩ :: (List.replicate 10 ⟨0, some 1⟩ ++ List.replicate 14 ⟨0, some 0⟩ ++ [⟨0, none⟩])
    later := [⟨4, some 2⟩, ⟨0, none⟩], interval := 100, minFrames := 1
    label := [0x54, 0x56, 0x20, 0x50, 0x4F, 0x57, 0x45, 0x52] }

/-- A record of one 600 µs mark, the smallest there is. -/
def oneMark : Record :=
  { carrier := 380, duty := 33, classes := [600], body := [⟨0, none⟩], later := [], interval := 20, minFrames := 1
    label := [] }

/-- The slot flags RECOGNIZE and NOTIFY. -/
def recognized : SlotFlags := { recognize := true, notify := true, wake := false }

/-- Slot 12 holding TV POWER in the chain 40, 41 (Section 3.6). -/
def stored : State :=
  { awake with
    lib := { awake.lib with
      directory := [(12, { flags := recognized, size := 56, chain := [40, 41], check := 0 })]
      pool := [(40, .programmed (tvPower.wire.take 32)), (41, .programmed (tvPower.wire.drop 32))] } }

/-- A library operation on slot 12 with the phase and chains given, due now. -/
def operation (kind : LibKind) (phase : LibPhase) (new old : List Nat) : LibOp :=
  { kind := kind, slot := 12, newChain := new, oldChain := old, phase := phase, tag := 7, flags := recognized
    bytes := tvPower.wire, check := 0, due := sec 1 }

/-- The stored state with such an operation in flight. -/
def operating (kind : LibKind) (phase : LibPhase) (new old : List Nat) : State :=
  { stored with lib := { stored.lib with op := some (operation kind phase new old) } }

/-- The awake state with another SENSE context. -/
def sensing (c : Context) : State := { awake with cap := { awake.cap with sense := c } }

/-- The awake state with another LEARN context. -/
def learning (c : Context) : State := { awake with cap := { awake.cap with learn := c } }

/-- The IDLE contexts, ready for a mark. -/
def idleSense : Context := Context.reset.enterIdle .sense Params.reset true
def idleLearn : Context := Context.reset.enterIdle .learn Params.reset false

/-- A job of the host on E1, ACTIVE with its snapshot TV POWER. -/
def job (kind : JobKind) (state : JobState) (play : Option Play) : Job :=
  { id := 42, origin := .host 0x0A, kind := kind, mask := 2, report := true, state := state, early := false
    framesSent := 0, step := 1, deadline := none, play := play }

/-- The stored state with that job at the head of E1's queue. -/
def emitting (j : Job) : State :=
  { stored with ems := { jobs := [j], queues := { e0 := [], e1 := [42], e2 := [], e3 := [] }, lastId := 42, recent := [] } }

/-- A session of a source in a state, with frames. -/
def session (state : SessionState) (source : Source) (frames : List Frame) : Session :=
  { state := state, source := source, hint := 380, start := 0, tag := 9, windowDue := some (sec 1)
    gapExpiry := some 1000000, closing := false, frames := frames, measurement := none }

/-- The awake state with a session. -/
def inSession (x : Session) : State := { awake with lrn := { session := some x, staged := none } }

/-- A press on slot 5 whose timer has run out. -/
def press : Press := { slot := 5, count := 5, notify := true, due := sec 1 }

/-- The awake state with one message of seven bytes to be read (the reply of Section 11.8). -/
def oneReply : Message := { kind := .reply, tag := 0x0A, payload := [0x01, 0x2A] }

/-- The awake state with a link. -/
def linked (l : Link) : State := { awake with link := l }

/-- The payload of the message last queued. -/
def lastPayload (s : State) : List Byte := (s.link.queue.getLast?.map (·.payload)).getD []

/-! ### Operating states and mount -/

theorem test_powerOn : (after (.powerOn 0 0b10) awake).link.address = 0x3C := by decide +kernel
theorem test_rstnAsserted :
    (after (.rstnAsserted 0 0b11) awake).opc.cause = .pin ∧ (after (.rstnAsserted 0 0b11) awake).link.address = 0x3D := by
  decide +kernel
theorem test_rstnReleased :
    (after (.rstnReleased 0) (after (.rstnAsserted 0 0) awake)).lib.mount =
      some { stage := .scanning (ms 5), repaired := 0, reclaimed := 0 } := by decide +kernel
/-- R34, R182: a new part mounts in 5 ms and reports READY with the cause POWER and two counts of 0. -/
theorem test_mountScanComplete :
    (after (.mountScanComplete (ms 5) []) State.reset).opc.state = .awake ∧
      (after (.mountScanComplete (ms 5) []) State.reset).lib.free.length = 640 ∧
      (after (.mountScanComplete (ms 5) []) State.reset).link.queue.map Message.bytes =
        [[0x81, 0x00, 0x05, 0x00, 0x00, 0x00, 0x00, 0x00, 0x00, 0x7A]] := by decide +kernel
theorem test_mountScanComplete_early : (after (.mountScanComplete (ms 5 - 1) []) State.reset).opc.state = .mounting := by
  decide +kernel

/-- A part in MOUNTING at a stage. -/
def mounting (stage : MountStage) : State :=
  { stored with
    opc := { stored.opc with state := .mounting }
    link := { stored.link with state := .closed }
    lib := { stored.lib with free := [], mount := some { stage := stage, repaired := 0, reclaimed := 0 } } }

/-- R35, R36: the repair commits slot 12 EMPTY, and its two segments are to be reclaimed. -/
theorem test_mountRepairCommit :
    (after (.mountRepairCommit 0) (mounting (.repairing [12] (sec 1)))).lib.directory = [] ∧
      (after (.mountRepairCommit 0) (mounting (.repairing [12] (sec 1)))).lib.mount =
        some { stage := .reclaiming [40, 41] (sec 1 + ms 2), repaired := 1, reclaimed := 0 } := by decide +kernel
/-- R36: the last reclaim ends the mount; READY counts it. -/
theorem test_mountReclaimErase :
    (after (.mountReclaimErase 0) (mounting (.reclaiming [3] (sec 1)))).lib.free = [3] ∧
      lastPayload (after (.mountReclaimErase 0) (mounting (.reclaiming [3] (sec 1)))) =
        [0x00, 0x00, 0x00, 0x01, 0x00] := by decide +kernel
theorem test_powerLoss : (after (.powerLoss 0) (operating .store (.programming 1 2) [3, 7] [])).lib.pool.map (·.1) = [3, 40, 41] := by
  decide +kernel

/-! ### The link -/

/-- R156, R158: the address with the straps at 0 is 3Ah. -/
theorem test_addressByte :
    (after (.addressByte 0 0x3A false) awake).link.state = .receiving ∧
      (after (.addressByte 0 0x3B false) awake).link.state = .idle := by decide +kernel
theorem test_dataByteWritten :
    (after (.dataByteWritten 0 0x30) (after (.addressByte 0 0x3A false) awake)).link.inbound = [0x30] := by decide +kernel
/-- Section 11.8: the frame with the check byte B3h is answered 80h 0Ah 01h 00h 02h 73h. -/
theorem test_writeEnd :
    (after (.writeEnd 0) (linked { awake.link with
        state := .receiving, inbound := [0x30, 0x0A, 0x03, 0x00, 0x02, 0x0C, 0x03, 0xB3] })).link.queue.map Message.bytes =
      [[0x80, 0x0A, 0x01, 0x00, 0x02, 0x73]] := by decide +kernel
/-- Section 11.8: the reply ACCEPTED with the id 2Ah reads 80h 0Ah 02h 00h 01h 2Ah 49h. -/
theorem test_replyBytes : oneReply.bytes = [0x80, 0x0A, 0x02, 0x00, 0x01, 0x2A, 0x49] := by decide +kernel
/-- The awake state with that reply being read, from a read position. -/
def reading (k : Nat) : State := linked { awake.link with state := .sending, queue := [oneReply], readPos := k }
theorem test_byteSent : (after (.byteSent 0 true) (reading 5)).pins.sent = 0x2A := by decide +kernel
theorem test_byteSent_last : after (.byteSent 0 true) (reading 6) = reading 6 := by decide +kernel
theorem test_messageSent :
    (after (.messageSent 0 true) (reading 6)).pins.sent = 0x49 ∧
      (after (.messageSent 0 true) (reading 6)).link.queue = [] := by decide +kernel
/-- R166: the acknowledged last byte of the queue asks for a byte of an EMPTY frame, which is sent whole before a message
appended after that. -/
theorem test_emptyFrame_asked :
    let s := notify (.pressed 5) (after (.messageSent 0 true) (reading 6))
    let t := after (.messageSent 0 true) (runAll (List.replicate 4 (.byteSent 0 true)) s)
    (after (.byteSent 0 true) s).pins.sent = 0x00 ∧ t.link.queue.length = 1 ∧ t.link.emptyPos = none ∧
      (after (.byteSent 0 true) t).pins.sent = 0x84 := by
  decide +kernel
theorem test_readEnd :
    (after (.readEnd 0) (reading 3)).link.state = .idle ∧ (after (.readEnd 0) (reading 3)).link.readPos = 0 := by
  decide +kernel
/-- A pending RELEASE frame whose reservation is complete. -/
def waiting : State :=
  linked { awake.link with
    state := .pending, held := some { frame := .good .release 4 [0x2A], size := 6, bytes := 6, place := true } }
theorem test_pendingFrameTaken :
    (after (.pendingFrameTaken 0) waiting).link.state = .idle ∧
      lastPayload (after (.pendingFrameTaken 0) waiting) = [0x0E] := by decide +kernel
/-- R169: a link release discards the pending frame. -/
theorem test_linkRelease :
    (after (.linkRelease 0 80) waiting).link.held = none ∧ lrelLow (after (.linkRelease 0 80) waiting) = true := by
  decide +kernel

/-! ### Parameters, status, standby -/

/-- Table 11-10 on the stored state: four IDLE channels, 5 free segments, 1 VALID slot, nothing else under way. -/
theorem test_getStatus :
    lastPayload (after (.getStatus 0 1) stored) =
      [0x00, 0x01, 0x01, 0x00, 0x00, 0x00, 0x01, 0x00, 0x00, 0x00, 0x01, 0x00, 0x00, 0x00, 0x01, 0x00, 0x00, 0x00, 0x00,
       0x05, 0x00, 0x01, 0x00, 0xFF, 0x00, 0x00, 0x00, 0x00, 0x00, 0x00, 0xFF, 0x00, 0x00, 0x00, 0x00, 0x00, 0x00] := by
  decide +kernel
/-- R188: FRAME_GAP, id 01h, becomes 20 ms; a value out of its range in the second pair refuses both. -/
theorem test_configure : (after (.configure 0 1 [0x01, 0x14, 0x00]) awake).opc.params.frameGap = 20 := by decide +kernel
theorem test_configure_refused :
    lastPayload (after (.configure 0 1 [0x01, 0x14, 0x00, 0x0B, 0x02, 0x00]) awake) = [0x05, 0x01] := by decide +kernel
theorem test_readConfig : lastPayload (after (.readConfig 0 1 [0x08, 0x01]) awake) = [0x00, 0x08, 0x96, 0x00, 0x01, 0x0F, 0x00] := by
  decide +kernel
theorem test_standby : (after (.standby 0 1) awake).opc.state = .standbyPending := by decide +kernel
/-- The last readiness condition met: a state in STANDBY_PENDING with nothing under way. -/
def pendingStandby : State := { awake with opc := { awake.opc with state := .standbyPending } }
theorem test_standbyEntry :
    (after (.standbyEntry 0) pendingStandby).opc.state = .standby ∧
      (after (.standbyEntry 0) pendingStandby).link.state = .closed := by decide +kernel
/-- A part in WAKING for the link, its completion due. -/
def wakingState : State :=
  { awake with
    opc := { awake.opc with state := .waking, wake := some .link, wakeDue := sec 1 }
    link := { awake.link with state := .closed } }
theorem test_wakeCompletion :
    (after (.wakeCompletion 0) wakingState).link.queue.map Message.bytes =
      [[0x8A, 0x00, 0x03, 0x00, 0x00, 0x00, 0xFF, 0x74]] := by decide +kernel
theorem test_reset : (after (.reset 0 1) awake).opc.cause = .request ∧ (after (.reset 0 1) awake).link.queue = [] := by
  decide +kernel

/-! ### The library -/

/-- Section 2.6: TV POWER passes every check, its wire size is 56 bytes and its stored size 2 segments. -/
theorem test_tvPower : recordFault tvPower = none ∧ tvPower.wireSize = 56 ∧ storedSize tvPower.wireSize = 2 := by
  decide +kernel
/-- Table 11-13: the fixed part and the class table of TV POWER. -/
theorem test_wire :
    tvPower.wire.take 21 =
      [0x7C, 0x01, 0x21, 0x05, 0x1A, 0x02, 0x08, 0x64, 0x00, 0x01, 0x58, 0x02, 0x08, 0x07, 0xD0, 0x07, 0xA0, 0x0F, 0x40,
       0x1F, 0x43] := by decide +kernel
/-- Section 11.8.1: an inline STORE of TV POWER to slot 12; the mistaken lead pair 53h fails at field 7, item 0. -/
theorem test_store :
    ((after (.store 0 7 ([0x0C, 0x03, 0x00, 0x00] ++ tvPower.wire)) awake).lib.op.map fun op => (op.newChain, op.phase)) =
      some ([3, 7], .programming 1 2) := by decide +kernel
theorem test_store_mistaken :
    lastPayload (after (.store 0 7 ([0x0C, 0x03, 0x00, 0x00] ++ tvPower.wire.set 20 0x53)) awake) = [0x06, 0x07, 0x00] := by
  decide +kernel
theorem test_erase : ((after (.erase 0 7 12) stored).lib.op.map (·.phase)) = some .committing := by decide +kernel
theorem test_setCodeFlags :
    ((after (.setCodeFlags 0 7 12 0x04) stored).lib.op.map (·.flags)) =
      some { recognize := false, notify := false, wake := true } := by decide +kernel
/-- Section 11.8.1: READ_CODE of slot 12 returns 00h, 0Ch, 03h and the 56 bytes. -/
theorem test_readCode : lastPayload (after (.readCode 0 7 12) stored) = [0x00, 0x0C, 0x03] ++ tvPower.wire := by
  decide +kernel
theorem test_listCodes :
    lastPayload (after (.listCodes 0 7 11 2) stored) =
      [0x00, 0x02, 11, 0x00, 0x00, 0x00, 0x00, 0x00, 0x00, 0x00, 0x00, 0x00, 12, 0x01, 0x03, 0x38, 0x00, 0x7C, 0x01, 0x1A,
       0x02, 0x05] := by decide +kernel
theorem test_segmentVerify :
    ((after (.segmentVerify 0 true) (operating .store (.programming 2 2) [3, 7] [])).lib.op.map fun op => (op.phase, op.due)) =
      some (.committing, sec 1 + ms 2) := by decide +kernel
/-- Section 3.6.1: a verify failure at the third of five segments returns the last two. -/
theorem test_segmentVerify_fails :
    ((after (.segmentVerify 0 false) (operating .store (.programming 1 2) [11, 12] [])).lib.op.map fun op =>
        (op.newChain, op.phase)) = some ([11], .releasing 1 1) ∧
      (after (.segmentVerify 0 false) (operating .store (.programming 1 2) [11, 12] [])).lib.free = [3, 7, 8, 9, 10, 12] := by
  decide +kernel
/-- Table 3-7: the commit replaces the entry and begins to release the chain 40, 41. -/
theorem test_commit :
    (after (.commit 0) (operating .store .committing [3, 7] [])).lib.directory.map (fun e => (e.1, e.2.chain)) =
        [(12, [3, 7])] ∧
      ((after (.commit 0) (operating .store .committing [3, 7] [])).lib.op.map fun op => (op.oldChain, op.phase)) =
        some ([40, 41], .releasing 1 2) := by decide +kernel
/-- Table 3-7: the last segment erased ends the operation with LIB_DONE(STORE, 12, OK). -/
theorem test_segmentErased :
    lastPayload (after (.segmentErased 0) (operating .store (.releasing 2 2) [] [41])) = [0x00, 0x07, 0x01, 0x0C, 0x00] ∧
      (after (.segmentErased 0) (operating .store (.releasing 2 2) [] [41])).lib.free = [3, 7, 8, 9, 10, 41] := by
  decide +kernel

/-! ### Capture and learning -/

theorem test_candidateMarkBegins :
    (after (.candidateMarkBegins 39 .sense) (sensing idleSense)).cap.sense.mark = some (sec 1) := by decide +kernel
/-- A SENSE context with a mark of the frame in progress since 560 µs ago. -/
def inMark : Context :=
  { idleSense with state := .inFrame, mark := some (sec 1 - us 560), entered := true, frameStart := sec 1 - us 560 }
theorem test_glitchLimitReached :
    (after (.glitchLimitReached (us 60) .sense) (after (.candidateMarkBegins 0 .sense) (sensing idleSense))).cap.sense.state =
      .inFrame := by decide +kernel
theorem test_glitchLimitReached_early :
    (after (.glitchLimitReached (us 60 - 1) .sense) (after (.candidateMarkBegins 0 .sense) (sensing idleSense))).cap.sense.state =
      .idle := by decide +kernel
theorem test_markEnds :
    (after (.markEnds 0 .sense) { sensing inMark with cap := { awake.cap with sense := inMark, rxs := false } }).cap.sense.buffer =
      [560] := by decide +kernel
/-- Section 4.10, group A: 20 pulses of 8 µs from 0 to 483 µs, ended 100 µs later. -/
def groupA : PulseGroup :=
  { count := 20, first := sec 1 - us 583, last := sec 1 - us 108, lastEnd := sec 1 - us 100, widths := us 160 }
/-- The LEARN context in the envelope mark of group A. -/
def inGroup : Context :=
  { idleLearn with
    state := .inFrame, mark := some (sec 1 - us 583), entered := true, frameStart := sec 1 - us 583, measure := true
    group := some groupA }
theorem test_envelopeMarkEnd :
    (after (.envelopeMarkEnd 0) (learning inGroup)).cap.learn.buffer = [483] ∧
      (after (.envelopeMarkEnd 0) (learning inGroup)).cap.learn.gapFrom = some (sec 1 - us 100) := by decide +kernel
/-- Section 4.10: groups A, B and C measure a carrier of 400 and a duty of 33; the stray pulse contributes nothing. -/
theorem test_measurement :
    measureGroups
        [{ count := 20, first := 0, last := us 475, lastEnd := us 483, widths := us 160 },
         { count := 20, first := us 1083, last := us 1558, lastEnd := us 1566, widths := us 160 },
         { count := 1, first := us 2500, last := us 2500, lastEnd := us 2530, widths := us 30 },
         { count := 40, first := us 3166, last := us 4141, lastEnd := us 4149, widths := us 320 }] =
      { carrier := 400, duty := 33 } := by decide +kernel
/-- A SENSE context in the gap after a frame of one mark, its space having reached 15 ms. -/
def inGap : Context :=
  { idleSense with
    state := .inFrame, buffer := [560], frameStart := sec 1 - us 15560, lastStart := sec 1 - us 15560
    gapFrom := some (sec 1 - ms 15) }
/-- R46, R88: the frame is handed to the Recognizer, which reports it unknown: 1 mark, 1 duration of 560 µs. -/
theorem test_frameGapReached :
    (after (.frameGapReached 0 .sense) (sensing inGap)).cap.sense.state = .idle ∧
      lastPayload (after (.frameGapReached 0 .sense) (sensing inGap)) = [0x00, 0x01, 0x01, 0x30, 0x02] := by decide +kernel
/-- R46: on RXL with GLITCH_LIMIT 0 a space one tick short of FRAME_GAP 15 ms is less than FRAME_GAP in whole µs as well. -/
theorem test_space_below_frameGap :
    ({ inGap with glitchLimit := 0, mark := some (sec 1 - 1) } : Context).candidateEntered.buffer = [560, 14999] := by
  decide +kernel
theorem test_longMark :
    (after (.longMark (us 64440) .sense)
        { sensing inMark with cap := { awake.cap with sense := inMark, rxs := false } }).cap.sense.state = .settling := by
  decide +kernel
theorem test_settlingDone :
    (after (.settlingDone 0 .sense)
        (sensing { idleSense with state := .settling, gapFrom := some (sec 1 - ms 15) })).cap.sense.state = .idle := by
  decide +kernel
/-- Section 5.9: the LEARN_START opens a session of 10 s. -/
theorem test_learnStart :
    ((after (.learnStart 0 9 0 0 380) awake).lrn.session.map (·.windowDue)) = some (some (sec 11)) ∧
      (after (.learnStart 0 9 0 0 380) awake).cap.learn.state = .idle := by decide +kernel
theorem test_learnStop :
    ((after (.learnStop 0 1) (inSession (session .waitingFirst .learn []))).link.queue.map (·.payload)) =
      [[0x00], [0x00, 0x09, 0x02, 0x00, 0x00, 0x00, 0x00, 0x00, 0x00]] := by decide +kernel
theorem test_readStaged :
    lastPayload (after (.readStaged 0 1) { awake with lrn := { session := none, staged := some tvPower } }) =
      [0x00, 0xFF, 0x00] ++ tvPower.wire := by decide +kernel
theorem test_windowExpiry :
    lastPayload (after (.windowExpiry 0) (inSession (session .waitingFirst .learn []))) =
      [0x00, 0x09, 0x01, 0x00, 0x00, 0x00, 0x00, 0x00, 0x00] := by decide +kernel
/-- The three frames of Table 5-5. -/
def frames59 : List Frame :=
  [{ durations := [3190, 1610, 392, 1206, 394, 408, 390, 1204, 392, 1208, 396, 410, 392, 406, 394, 1206, 392, 408, 392]
     start := 2400000, stop := 2414790 },
   { durations := [3188, 812, 392], start := 2508240, stop := 2512632 },
   { durations := [3190, 810, 394], start := 2616470, stop := 2620864 }]
/-- Tables 5-7 and 5-8: the record learned from them. -/
def learned59 : Record :=
  { carrier := 380, duty := 33, classes := [397, 811, 1206, 1610, 3189]
    body := [⟨4, some 3⟩, ⟨0, some 2⟩, ⟨0, some 0⟩, ⟨0, some 2⟩, ⟨0, some 2⟩, ⟨0, some 0⟩, ⟨0, some 0⟩, ⟨0, some 2⟩,
             ⟨0, some 0⟩, ⟨0, none⟩]
    later := [⟨4, some 1⟩, ⟨0, none⟩], interval := 108, minFrames := 1, label := [] }
theorem test_reduce : (session .collecting .sense frames59).reduce = .ok learned59 := by decide +kernel
theorem test_endGapExpiry :
    (after (.endGapExpiry 0) (inSession (session .collecting .sense frames59))).lrn = { session := none, staged := some learned59 } ∧
      lastPayload (after (.endGapExpiry 0) (inSession (session .collecting .sense frames59))) =
        [0x00, 0x09, 0x00, 0x7C, 0x01, 0x05, 0x0A, 0x02, 0x03] := by decide +kernel

/-! ### Recognition and routes -/

/-- Section 6.8: slot 5 accepts the repeat frame 3240, 790, 410 in its repeat part, and its body as delivered. -/
theorem test_matches :
    matchesList 20 learned59.classes learned59.later [3240, 790, 410] = true ∧
      matchesList 20 learned59.classes learned59.body (frames59.map (·.durations))[0]! = true ∧
      matchesList 20 [397] [⟨0, none⟩] [317] = false ∧ matchesList 20 [397] [⟨0, none⟩] [318] = true ∧
      matchesList 20 [397] [⟨0, none⟩] [476] = true ∧ matchesList 20 [397] [⟨0, none⟩] [477] = false := by decide +kernel
/-- Table 6-6: the timer ends the press with RELEASED(5, 5, TIMEOUT). -/
theorem test_releaseTimerExpiry :
    lastPayload (after (.releaseTimerExpiry 0) { awake with rcg := { awake.rcg with press := some press } }) =
      [0x00, 0x05, 0x05, 0x00, 0x00] := by decide +kernel
/-- Table 9-3, entry 1. -/
theorem test_routeSet :
    (after (.routeSet 0 1 1 5 0x00 0x01 30 2 0 0 0x00) awake).routes =
      [(1, { source := 5, trigger := .pressed, action := .mirror, target := 30, mask := 2, frames := 0, holdLimit := 0,
             report := false, link := none })] := by decide +kernel
theorem test_routeClear :
    (after (.routeClear 0 1 1) (after (.routeSet 0 1 1 5 0x00 0x01 30 2 0 0 0x00) awake)).routes = [] := by decide +kernel
theorem test_routeRead :
    lastPayload (after (.routeRead 0 1 1) (after (.routeSet 0 1 1 5 0x00 0x01 30 2 0 0 0x00) awake)) =
      [0x00, 0x01, 0x01, 0x05, 0x00, 0x01, 30, 0x02, 0x00, 0x00, 0x00, 0x00] := by decide +kernel

/-! ### Jobs and channels -/

/-- Section 11.8: SEND of slot 12 on E1 for 3 frames becomes job 42 and activates at once. -/
def before42 : State := { stored with ems := { stored.ems with lastId := 41 } }
theorem test_send :
    (after (.send 0 0x0A 0x02 0x0C 0x03) before42).link.queue = [oneReply] ∧
      ((after (.send 0 0x0A 0x02 0x0C 0x03) before42).ems.jobs.map fun j => (j.id, j.state)) = [(42, .active)] := by
  decide +kernel
theorem test_hold :
    ((after (.hold 0 1 0x02 0x0C 0) before42).ems.jobs.map (·.deadline)) = [some (sec 11)] := by decide +kernel
/-- Section 8.10.4, the first two steps on E2. -/
theorem test_sequence :
    ((after (.sequence 0 1 [0x04, 0x00, 0x0C, 0x01, 0x01, 0xF4, 0x01]) before42).ems.jobs.map (·.kind)) =
      [.sequence [.send 12 1, .pause 500]] := by decide +kernel
/-- Frame 1 of TV POWER waits to start now. -/
def waits (n : Nat) : Play := { snapshot := some tvPower, stepFrames := n, phase := .gap (sec 1) }
/-- A frame of TV POWER in progress, in an element that ends now. -/
def plays (n element : Nat) : Play :=
  { snapshot := some tvPower, stepFrames := n
    phase := .frame { start := sec 1 - us 8000, element := element, stop := sec 1 } }
theorem test_cancel :
    ((after (.cancel 0 1 42) (emitting (job (.send 12 3) .active (some (plays 0 0))))).ems.jobs.map (·.state)) =
      [.ending .cancelled] := by decide +kernel
theorem test_release :
    lastPayload (after (.release 0 1 42) (emitting (job (.send 12 3) .active (some (plays 0 0))))) = [0x10] := by
  decide +kernel
theorem test_flush :
    (after (.flush 0 1 0x02) (emitting (job (.send 12 3) .queued none))).ems.recent =
      [{ id := 42, outcome := .cancelled, framesSent := 0 }] := by decide +kernel
theorem test_jobStatus :
    lastPayload (after (.jobStatus 0 1 42) (emitting (job (.send 12 3) .active (some (plays 0 0))))) =
      [0x00, 0x01, 0x00, 0x00, 0x0A, 0x02, 0xFF, 0x00, 0x00, 0x00, 0xFF, 0x00, 0xFF, 0xFF] := by decide +kernel
theorem test_disable : (after (.disable 0 1 1) awake).channels.e1.mode = .off := by decide +kernel
/-- The awake state with another channel EC1. -/
def channelled (c : Channel) : State := { awake with channels := { awake.channels with e1 := c } }
theorem test_enable : (after (.enable 0 1 1) (channelled { Channel.reset with mode := .off })).channels.e1.mode = .on := by
  decide +kernel
theorem test_clearFault :
    (after (.clearFault 0 1 1) (channelled { Channel.reset with mode := .fault .short })).channels.e1.mode = .on := by
  decide +kernel
/-- R135: the end of a job queued behind the ENDING head of a STOPPED channel leaves it STOPPED; the end of that head does not. -/
theorem test_stoppedUntilHeadEnds :
    let s := { emitting (job (.send 12 3) (.ending .failedFault) (some (plays 0 0))) with
      ems := { jobs := [job (.send 12 3) (.ending .failedFault) (some (plays 0 0)),
                        { job (.send 12 1) .queued none with id := 43 }]
               queues := { e0 := [], e1 := [42, 43], e2 := [], e3 := [] }, lastId := 43, recent := [] }
      channels := { awake.channels with e1 := { Channel.reset with stopped := true } } }
    (endJob 43 .cancelled s).channels.e1.stopped = true ∧ (endJob 42 .cancelled s).channels.e1.stopped = false := by
  decide +kernel
theorem test_nearOn : (after (.nearOn 0 1 1) awake).channels.e1.near = true := by decide +kernel
theorem test_nearOff : (after (.nearOff 0 1 1) (channelled { Channel.reset with near := true })).channels.e1.near = false := by
  decide +kernel
/-- Section 2.6: the lead mark of TV POWER is 304 pulses, and a 600 µs mark 23. -/
theorem test_frameStart :
    ((after (.frameStart 0 42) (emitting (job (.send 12 3) .active (some (waits 0))))).channels.e1.drive.map (·.pulses)) =
        some 304 ∧ pulseCount 600 380 = 23 ∧
      (after (.frameStart 0 42) (emitting (job (.send 12 3) .active (some (waits 0))))).channels.e0.drive = none := by
  decide +kernel
theorem test_elementEnd :
    ((after (.elementEnd 0 42) (emitting (job (.send 12 3) .active (some (plays 0 0))))).ems.jobs.map
        fun j => j.play.map (·.phase)) =
      [some (.frame { start := sec 1 - us 8000, element := 1, stop := sec 1 + us 4000 })] := by decide +kernel
/-- Table 2-7: the frames of a SEND of 3 start 100 ms apart; the body's last mark is element 50, the repeat part's 2. -/
theorem test_frameEnd :
    ((after (.frameEnd 0 42) (emitting (job (.send 12 3) .active (some (plays 0 50))))).ems.jobs.map
        fun j => (j.framesSent, j.play.map (·.phase))) =
      [(1, some (.gap (sec 1 - us 8000 + ms 100)))] := by decide +kernel
theorem test_frameEnd_last :
    lastPayload (after (.frameEnd 0 42) (emitting (job (.send 12 3) .active (some (plays 2 2))))) =
      [0x00, 0x2A, 0x00, 0x01, 0x00, 0x00, 0x0A] := by decide +kernel
/-- A SEQUENCE at a step, in a phase that ends now. -/
def stepping (phase : PlayPhase) : Job :=
  job (.sequence [.pause 10, .send 12 1]) .active (some { snapshot := none, stepFrames := 0, phase := phase })
theorem test_pauseEnd :
    ((after (.pauseEnd 0 42) (emitting (stepping (.pause (sec 1))))).ems.jobs.map fun j => (j.step, j.play)) =
      [(2, some (waits 0))] := by decide +kernel
theorem test_sendStepStart :
    ((after (.sendStepStart 0 42) (emitting (stepping (.stepGap (sec 1))))).ems.jobs.map fun j => (j.step, j.play)) =
      [(2, some (waits 0))] := by decide +kernel
theorem test_holdDeadlineExpiry :
    (after (.holdDeadlineExpiry 0 42)
        (emitting { job (.hold 12 1) .active (some (waits 34)) with framesSent := 34, deadline := some (sec 1) })).ems.recent =
      [{ id := 42, outcome := .holdLimit, framesSent := 34 }] := by decide +kernel
/-- EC1 driving a mark of TV POWER since 20 µs ago. -/
def driving : Channel :=
  { Channel.reset with
    drive := some { start := sec 1 - us 20, carrier := 380, duty := 33, pulses := 304, edge := 1, raised := false }
    check := [sec 1], out := true }
theorem test_openWindowClose :
    lastPayload (after (.openWindowClose 0 .e1) (channelled driving)) = [0x00, 0x01, 0x01] ∧
      (after (.openWindowClose 0 .e1) (channelled driving)).channels.e1.mode = .fault .opened := by decide +kernel
/-- R136, R127: the 10 µs mark of a carrier of 200 and a duty of 50 is checked for 25 µs, past the start of a mark 20 µs after
its own. -/
theorem test_checkWindows :
    ((Channel.reset.startMark { oneMark with carrier := 200, duty := 50 } 10 0).startMark
      { oneMark with carrier := 200, duty := 50 } 10 (us 20)).check = [us 25, us 45] := by decide +kernel
theorem test_overcurrent :
    (after (.overcurrent 0 .e1) (channelled driving)).channels.e1.mode = .fault .short ∧
      (after (.overcurrent 0 .e1) (channelled driving)).channels.e1.out = false := by decide +kernel
/-- R8: at a duty of 33 and 38.0 kHz a pulse lasts 8.68 µs; the output is off after it. -/
theorem test_carrierPulseEdge : (after (.carrierPulseEdge 0 .e1) (channelled driving)).channels.e1.out = false := by
  decide +kernel
theorem test_maskWindowClose :
    (after (.maskWindowClose 0 .e1) { channelled { Channel.reset with window := .closing (sec 1) } with
        cap := { awake.cap with sense := idleSense.enterMasked } }).cap.sense.state = .settling := by decide +kernel

/-! ### Witnesses

For each obligation with hypotheses, operands and states that meet them: one line of the conjunction for each clause, at a
boundary of its range where it has one. -/

theorem witness_stepRunsFrontCommand : State.reset.pending = [] := by decide +kernel

/-- A write in progress with `n` bytes stored. -/
def receiving (n : Nat) : State := linked { awake.link with state := .receiving, inbound := List.replicate n 0 }

theorem witness_dataByteStored :
    ((advance 0 (receiving 304)).link.state = .receiving ∧ (advance 0 (receiving 304)).link.inbound.length < 305) ∧
    ((advance 0 (receiving 305)).link.state = .receiving ∧ 305 ≤ (advance 0 (receiving 305)).link.inbound.length) ∧
    (advance 0 awake).link.state ≠ .receiving ∧
    ((advance 0 (receiving 4)).link.state = .receiving ∧ (advance 0 (receiving 4)).link.inbound.length < 5) := by
  decide +kernel

/-- The link released, LREL low for one more tick. -/
def lrel : State := { awake with pins := { awake.pins with lrelLowUntil := sec 1 + 1 } }
/-- A part in STANDBY. -/
def inStandby : State :=
  { awake with opc := { awake.opc with state := .standby }, link := { awake.link with state := .closed } }

theorem witness_addressByteJudged :
    (StandbySettled (advance 0 awake) ∧ (advance 0 awake).link.state ≠ .receiving ∧ (advance 0 awake).link.state ≠ .sending ∧
      (0x3B : BitVec 7) ≠ (advance 0 awake).link.address) ∧
    (StandbySettled (advance 0 State.reset) ∧ (0x3A : BitVec 7) = (advance 0 State.reset).link.address ∧
      (advance 0 State.reset).link.state = .closed ∧ (advance 0 State.reset).opc.state ≠ .standby) ∧
    (StandbySettled (advance 0 inStandby) ∧ (0x3A : BitVec 7) = (advance 0 inStandby).link.address ∧
      (advance 0 inStandby).link.state = .closed ∧ (advance 0 inStandby).opc.state = .standby) ∧
    (StandbySettled (advance 0 lrel) ∧ (advance 0 lrel).link.state ≠ .closed ∧ lrelLow (advance 0 lrel) = true) ∧
    (StandbySettled (advance 0 waiting) ∧ (advance 0 waiting).link.state = .pending ∧
      lrelLow (advance 0 waiting) = false) ∧
    ((advance 0 awake).link.state = .idle ∧ lrelLow (advance 1 lrel) = false ∧ (0x3A : BitVec 7) = awake.link.address) := by
  unfold StandbySettled; decide +kernel

/-- A write that has stored a frame. -/
def wrote (bytes : List Byte) : State := linked { awake.link with state := .receiving, inbound := bytes }
/-- The GET_STATUS frame with tag 1, five bytes long. -/
def getStatusFrame : List Byte := frameBytes 0x01 0x01 []

theorem witness_writeEndChecksFrame :
    (advance 0 awake).link.state ≠ .receiving ∧
    (let s := linked { awake.link with state := .receiving, inbound := getStatusFrame, queue := List.replicate 32 oneReply };
      (advance 0 s).link.state = .receiving ∧ 5 ≤ (advance 0 s).link.inbound.length ∧
        (advance 0 s).link.fits (checkFrame (advance 0 s).link.inbound) = false) ∧
    (let s := wrote [0x01, 0x01, 0x00, 0x00, 0xFF];
      (advance 0 s).link.state = .receiving ∧ 5 ≤ (advance 0 s).link.inbound.length ∧
        (advance 0 s).link.fits (checkFrame (advance 0 s).link.inbound) = true ∧
        checkFrame (advance 0 s).link.inbound = .rejected 0x01 .badCheck) ∧
    (let s := { wrote getStatusFrame with opc := { awake.opc with state := .standbyPending } };
      (advance 0 s).link.state = .receiving ∧ (advance 0 s).link.fits (checkFrame (advance 0 s).link.inbound) = true ∧
        checkFrame (advance 0 s).link.inbound = .good .getStatus 0x01 [] ∧ (advance 0 s).opc.state = .standbyPending) ∧
    (let s := wrote getStatusFrame;
      (advance 0 s).link.state = .receiving ∧ 5 ≤ (advance 0 s).link.inbound.length ∧
        (advance 0 s).link.fits (checkFrame (advance 0 s).link.inbound) = true ∧
        checkFrame (advance 0 s).link.inbound = .good .getStatus 0x01 [] ∧ (advance 0 s).opc.state ≠ .standbyPending) := by
  decide +kernel

theorem witness_frameChecksInOrder :
    (List.replicate 300 (0 : Byte)).length ≤ 300 ∧
    (([0x01, 0x01, 0x01, 0x00, 0xFD] : List Byte).length ≠ 5 + wordAt [0x01, 0x01, 0x01, 0x00, 0xFD] 2) ∧
    (([0x01, 0x01, 0x00, 0x00, 0xFF] : List Byte).length = 5 + wordAt [0x01, 0x01, 0x00, 0x00, 0xFF] 2 ∧
      byteSum [0x01, 0x01, 0x00, 0x00, 0xFF] ≠ 0) ∧
    ((frameBytes 0x06 0x01 []).length = 5 + wordAt (frameBytes 0x06 0x01 []) 2 ∧ byteSum (frameBytes 0x06 0x01 []) = 0 ∧
      ∀ k ∈ ReqKind.list, k.code ≠ byteAt (frameBytes 0x06 0x01 []) 0) := by
  decide +kernel
theorem witness_frameChecksInOrder_kinds (k : ReqKind) : k.code ≠ byteAt (frameBytes 0x06 0x01 []) 0 := by
  cases k <;> decide +kernel

theorem witness_requestRowIsItsTransaction :
    requestOf (.readCode 0 7 12) = some (0, .readCode, 7, [12]) ∧ ([12] : List Byte).length ≤ 300 ∧
    (StandbySettled (advance 0 stored) ∧ (advance 0 stored).link.state = .idle ∧ lrelLow (advance 0 stored) = false) ∧
    (StandbySettled (advance 0 State.reset) ∧ (advance 0 State.reset).link.state = .closed) ∧
    (StandbySettled (advance 0 waiting) ∧ (advance 0 waiting).link.state = .pending) ∧
    (StandbySettled (advance 0 lrel) ∧ (advance 0 lrel).link.state = .idle ∧ lrelLow (advance 0 lrel) = true) := by
  unfold StandbySettled; decide +kernel

/-- A read with an EMPTY frame in progress. -/
def emptying (k : Option Nat) : State := linked { awake.link with state := .sending, emptyPos := k }

theorem witness_bytesSentInTurn :
    ((advance 0 (reading 5)).link.state = .sending ∧ (advance 0 (reading 5)).link.handedOff = false ∧
      (advance 0 (reading 5)).link.emptyPos = none ∧ (advance 0 (reading 5)).link.queue = oneReply :: [] ∧
      (advance 0 (reading 5)).link.readPos + 1 < oneReply.size) ∧
    ((advance 0 (reading 6)).link.readPos + 1 = oneReply.size ∧ (advance 0 (reading 6)).link.held = none) ∧
    ((advance 0 (emptying none)).link.emptyPos = none ∧ (advance 0 (emptying none)).link.queue = [] ∧
      (advance 0 (emptying none)).link.state = .sending ∧ (advance 0 (emptying none)).link.handedOff = false) ∧
    (advance 0 (emptying (some 3))).link.emptyPos = some 3 ∧ (advance 0 (emptying (some 4))).link.emptyPos = some 4 ∧
    (advance 0 awake).link.state ≠ .sending := by
  decide +kernel

/-- A READ_CODE pending with a reservation of `n` bytes, while the reply at the head is read to its last byte. -/
def readingHeld (n : Nat) : State :=
  linked { (reading 6).link with
    held := some { frame := .good .readCode 40 [12], size := 274, bytes := n, place := true } }

theorem witness_pendingFrameTakenWhenComplete :
    ((advance 0 (readingHeld 266)).link.readPos + 1 = oneReply.size ∧
      (advance 0 (readingHeld 266)).link.held =
        some { frame := .good .readCode 40 [12], size := 274, bytes := 266, place := true } ∧
      266 + oneReply.size < 274) ∧
    ((advance 0 (readingHeld 267)).link.state = .sending ∧ (advance 0 (readingHeld 267)).link.handedOff = false ∧
      (advance 0 (readingHeld 267)).link.emptyPos = none ∧ (advance 0 (readingHeld 267)).link.queue = oneReply :: [] ∧
      274 ≤ 267 + oneReply.size) ∧
    ((advance 0 waiting).link.state = .pending ∧
      (advance 0 waiting).link.held = some { frame := .good .release 4 [0x2A], size := 6, bytes := 6, place := true }) ∧
    ((advance 0 (readingHeld 273)).link.held =
      some { frame := .good .readCode 40 [12], size := 274, bytes := 273, place := true } ∧ 273 < 274) := by
  decide +kernel

theorem witness_readEndAndLinkRelease :
    (advance 0 (reading 3)).link.state = .sending ∧ (advance 0 awake).link.state ≠ .sending ∧
      (advance 0 State.reset).link.state = .closed ∧ (advance 0 awake).link.state ≠ .closed := by
  decide +kernel

/-- A link whose queue holds `n` bytes in messages of `k` bytes each. -/
def filled (n k : Nat) : Link :=
  { awake.link with queue := List.replicate n { kind := .reply, tag := 0, payload := List.replicate (k - 5) 0 } }

theorem witness_notificationAdmittedOrDropped :
    (({ kind := .pressed, tag := 0, payload := [0, 5] } : Message).size ≤
        2048 - queueBytes (filled 31 65).queue - (filled 31 65).reservedBytes ∧
      1 ≤ 32 - (filled 31 65).queue.length - (filled 31 65).reservedPlaces) ∧
    2048 - queueBytes (filled 14 146).queue - (filled 14 146).reservedBytes <
      ({ kind := .pressed, tag := 0, payload := [0, 5] } : Message).size ∧
    32 - (filled 32 6).queue.length - (filled 32 6).reservedPlaces = 0 := by
  decide +kernel

/-- RSTN low in MOUNTING. -/
def held : State := after (.rstnAsserted 0 0) awake

theorem witness_resetsTakeResetValues :
    ((advance 0 awake).pins.rstnLow = false ∧ (advance 0 awake).pins.powered = true) ∧ PortOpen (advance 0 awake) ∧
    ((advance 0 held).pins.rstnLow = true ∧ (advance 0 held).pins.powered = true ∧ (advance 0 held).opc.state = .mounting) := by
  unfold PortOpen StandbySettled; decide +kernel

theorem witness_cutLeavesLibrary :
    (TablesCanonical (advance 0 stored) ∧ (advance 0 stored).pins.powered = true ∧ (advance 0 stored).pins.rstnLow = false ∧
      PortOpen (advance 0 stored) ∧ (advance 0 stored).lib.op = none ∧ (advance 0 stored).lib.mount = none) ∧
    (TablesCanonical (advance 0 (operating .store (.programming 1 2) [3, 7] [])) ∧
      (advance 0 (operating .store (.programming 1 2) [3, 7] [])).lib.op =
        some (operation .store (.programming 1 2) [3, 7] [])) ∧
    (advance 0 (operating .store .committing [3, 7] [])).lib.op = some (operation .store .committing [3, 7] []) ∧
    ((advance 0 (operating .store (.releasing 1 2) [] [40, 41])).lib.op =
      some (operation .store (.releasing 1 2) [] [40, 41]) ∧ (([] : List Nat) ++ [40, 41]).head? = some 40) ∧
    ((advance 0 (mounting (.repairing [12] 0))).lib.mount =
      some { stage := .repairing [12] 0, repaired := 0, reclaimed := 0 } ∧
      (advance 0 (mounting (.repairing [12] 0))).pins.powered = true) ∧
    (advance 0 (mounting (.reclaiming [3] 0))).lib.mount =
      some { stage := .reclaiming [3] 0, repaired := 0, reclaimed := 0 } := by
  unfold PortOpen TablesCanonical StandbySettled; decide +kernel
theorem witness_cutLeavesLibrary_step :
    exec (.powerLoss 0) (mounting (.reclaiming [3] 0)) = .next (after (.powerLoss 0) (mounting (.reclaiming [3] 0))) := rfl

theorem witness_standbyAndWake :
    PortReady .standby (advance 0 awake) ∧
    ((advance 0 pendingStandby).opc.state = .standbyPending ∧ (advance 0 pendingStandby).link.state = .idle ∧
      (advance 0 pendingStandby).link.queue = [] ∧ (advance 0 pendingStandby).link.held = none ∧
      (advance 0 pendingStandby).ems.jobs = [] ∧ (advance 0 pendingStandby).lrn.session = none ∧
      (advance 0 pendingStandby).lib.op = none ∧ (advance 0 pendingStandby).rcg.press = none) ∧
    (let s := { pendingStandby with link := { awake.link with state := .sending } };
      (advance 0 s).opc.state = .standbyPending ∧ (advance 0 s).link.state = .sending ∧ (advance 0 s).link.queue = []) ∧
    StandbySettled (advance 0 awake) ∧
    ((advance 0 wakingState).opc.state = .waking ∧ (advance 0 wakingState).opc.wake = some .link ∧
      (advance 0 wakingState).opc.wakeDue ≤ (advance 0 wakingState).now) ∧
    (advance 0 awake).opc.state ≠ .waking := by
  unfold PortReady PortOpen StandbySettled; decide +kernel

theorem witness_configureSetsParameters :
    PortReady .configure (advance 0 awake) ∧
    ([0x01, 0x14, 0x00, 0x0B] : List Byte).length % 3 ≠ 0 ∧
    (configPairs [0x01, 0x14, 0x00, 0x0B, 0x02, 0x00]).findIdx? (fun x => !paramOk x.1 x.2) = some 1 ∧
    (([0x01, 0x14, 0x00] : List Byte).length % 3 = 0 ∧ (∀ x ∈ configPairs [0x01, 0x14, 0x00], paramOk x.1 x.2 = true) ∧
      ∀ x ∈ configPairs [0x01, 0x14, 0x00], x.1 ≠ 0x0B) ∧
    ((advance 0 awake).opc.params.senseEnable = 1 ∧ awaiting (advance 0 awake) .sense = none) ∧ ParamsInRange awake := by
  unfold PortReady PortOpen StandbySettled ParamsInRange; decide +kernel

theorem witness_readConfigAnswersValues :
    PortReady .readConfig (advance 0 awake) ∧
    ([0x01, 0x0F] : List Byte).findIdx? (fun id => !decide (0x01 ≤ id.toNat ∧ id.toNat ≤ 0x0E)) = some 1 ∧
    ∀ id ∈ ([0x01, 0x0E] : List Byte), 0x01 ≤ id.toNat ∧ id.toNat ≤ 0x0E := by
  unfold PortReady PortOpen StandbySettled; decide +kernel

theorem witness_getStatusReports : PortReady .getStatus (advance 0 stored) := by
  unfold PortReady PortOpen StandbySettled; decide +kernel

/-- A part in MOUNTING with nothing stored and every segment erased. -/
def fresh (stage : MountStage) : State :=
  { mounting stage with
    lib := { directory := [], pool := [], free := [], op := none,
             mount := some { stage := stage, repaired := 0, reclaimed := 0 } } }

theorem witness_mountRunsItsStages :
    ((advance 0 (mounting (.scanning (sec 1)))).opc.state = .mounting ∧
      (advance 0 (mounting (.scanning (sec 1)))).lib.mount =
        some { stage := .scanning (sec 1), repaired := 0, reclaimed := 0 } ∧
      sec 1 ≤ (advance 0 (mounting (.scanning (sec 1)))).now) ∧
    (let l := (fresh (.scanning (sec 1))).lib;
      failedSlots { l with pool := decay [(9, List.replicate 32 7)] l.pool } = [] ∧
        leftovers { l with pool := decay [(9, List.replicate 32 7)] l.pool } = [9]) ∧
    ((advance 0 (mounting (.repairing [5, 12] (sec 1)))).lib.mount =
      some { stage := .repairing [5, 12] (sec 1), repaired := 0, reclaimed := 0 }) ∧
    (leftovers { (mounting (.repairing [12] (sec 1))).lib with
      directory := Table.erase (mounting (.repairing [12] (sec 1))).lib.directory 12 } = [40, 41]) ∧
    (advance 0 (mounting (.reclaiming [3, 7] (sec 1)))).lib.mount =
      some { stage := .reclaiming [3, 7] (sec 1), repaired := 0, reclaimed := 0 } ∧
    ((advance 0 (mounting (.scanning (sec 1 + 1)))).lib.mount =
      some { stage := .scanning (sec 1 + 1), repaired := 0, reclaimed := 0 } ∧
      (advance 0 (mounting (.scanning (sec 1 + 1)))).now < sec 1 + 1) ∧
    (maskingPresent (advance 0 (mounting (.reclaiming [3] (sec 1)))) = false ∧
      (advance 0 (mounting (.reclaiming [3] (sec 1)))).lib.mount =
        some { stage := .reclaiming [3] (sec 1), repaired := 0, reclaimed := 0 }) ∧
    (let l := (fresh (.repairing [12] (sec 1))).lib;
      leftovers { l with directory := Table.erase l.directory 12 } = []) ∧
    (let l := (fresh (.scanning (sec 1))).lib;
      failedSlots { l with pool := decay [] l.pool } = [] ∧ leftovers { l with pool := decay [] l.pool } = []) ∧
    Table.wf (advance 0 stored).lib.directory = true := by
  decide +kernel

/-- A part in MOUNTING whose slot 12 has a chain of no segments and another check than that of no bytes. -/
def failing : State :=
  { fresh (.scanning (sec 1)) with
    lib := { (fresh (.scanning (sec 1))).lib with
      directory := [(12, { flags := recognized, size := 0, chain := [], check := Config.checkValue [] + 1 })] } }
theorem witness_mountRunsItsStages_failed :
    failedSlots { (advance 0 failing).lib with pool := decay [] (advance 0 failing).lib.pool } = [12] := by
  have h : ∀ x : Word16, (x + 1 != x) = true := by
    intro x; simp only [bne_iff_ne, ne_eq]; intro h; bv_omega
  show ([(12, _)].filter fun e => _).map _ = [12]
  have : (Config.checkValue [] + 1 != Config.checkValue []) = true := h _
  simp only [List.filter, failing, fresh, decay, advance, chainBytes]
  erw [show (Config.checkValue [] + 1 != Config.checkValue []) = true from this]
  rfl

theorem witness_recordWireFormReadsBack : recordFault tvPower = none ∧ (0x7F : Byte).toNat < 128 := by decide +kernel

/-- The payload of an inline STORE of TV POWER to slot 12. -/
def storePayload : List Byte := [0x0C, 0x03, 0x00, 0x00] ++ tvPower.wire
/-- A STORE of the staged record to slot 127, all three overrides given. -/
def stagedPayload : List Byte := [0x7F, 0x07, 0x01, 0x07, 0x64, 0x00, 0x01, 0x00]

theorem witness_storeAcceptedOrRefused :
    (PortReady .store (advance 0 awake) ∧ 8 ≤ storePayload.length ∧ storePayload.length ≤ 270 ∧
      (([0x0C, 0x03, 0x00, 0x00, 0x7C, 0x01, 0x21, 0x05] : List Byte).length = 8 ∧
        payloadAgrees .store [0x0C, 0x03, 0x00, 0x00, 0x7C, 0x01, 0x21, 0x05] = false)) ∧
    (payloadAgrees .store [0x80, 0x07, 0x01, 0x07, 0x64, 0x00, 0x01, 0x00] = true) ∧
    (payloadAgrees .store stagedPayload = true ∧ (advance 0 awake).lrn.staged = none ∧
      ¬(128 ≤ (byteAt stagedPayload 0).toNat ∨ 8 ≤ (byteAt stagedPayload 1).toNat ∨ 2 ≤ (byteAt stagedPayload 2).toNat ∨
        (byteAt stagedPayload 2 = 0x00 ∧ byteAt stagedPayload 3 ≠ 0x00) ∨
        (byteAt stagedPayload 2 = 0x01 ∧ 8 ≤ (byteAt stagedPayload 3).toNat))) ∧
    (payloadAgrees .store (storePayload.set 24 0x53) = true ∧
      recordFault (Record.ofWire ((storePayload.set 24 0x53).drop 4)) = some (7, 0)) ∧
    (payloadAgrees .store storePayload = true ∧ recordFault (Record.ofWire (storePayload.drop 4)) = none ∧
      (advance 0 (operating .erase .committing [] [])).lib.op ≠ none ∧
      PortReady .store (advance 0 (operating .erase .committing [] []))) ∧
    (let s := { awake with lib := { awake.lib with free := [3] } };
      PortReady .store (advance 0 s) ∧ (advance 0 s).lib.op = none ∧ (advance 0 s).lib.free.length < storedSize 56) ∧
    (let s := { awake with lib := { awake.lib with free := [3, 7] } };
      PortReady .store (advance 0 s) ∧ (advance 0 s).lib.op = none ∧ storedSize 56 ≤ (advance 0 s).lib.free.length) := by
  unfold PortReady PortOpen StandbySettled; decide +kernel

theorem witness_recordChecksInFieldOrder :
    recordFault { tvPower with carrier := 199 } = some (1, 0) ∧
    recordFault { tvPower with duty := 34 } = some (2, 0) ∧
    recordFault { tvPower with classes := [] } = some (3, 0) ∧
    recordFault { tvPower with classes := [600, 9, 2000, 4000, 65001] } = some (4, 1) ∧
    recordFault { tvPower with body := [] } = some (5, 0) ∧
    recordFault { tvPower with body := List.replicate 25 ⟨0, some 0⟩ ++ [⟨0, some 0⟩] } = some (7, 25) ∧
    recordFault { tvPower with later := [⟨4, none⟩, ⟨0, none⟩] } = some (8, 0) ∧
    recordFault { tvPower with label := [0x20, 0x7F] } = some (12, 1) ∧
    recordFault tvPower = none := by
  decide +kernel

theorem witness_segmentsProgrammedAndErased :
    ((advance 0 (operating .store (.programming 1 2) [3, 7] [])).lib.op =
        some (operation .store (.programming 1 2) [3, 7] []) ∧
      (operation .store (.programming 1 2) [3, 7] []).due ≤ (advance 0 awake).now ∧ 1 < 2) ∧
    (operation .store (.programming 2 2) [3, 7] []).phase = .programming 2 2 ∧
    (({ operation .store (.programming 1 2) [3, 7] [] with due := sec 1 + 1 } : LibOp).due > (advance 0 awake).now) ∧
    ((advance 0 (operating .erase (.releasing 1 2) [] [40, 41])).lib.op =
        some (operation .erase (.releasing 1 2) [] [40, 41]) ∧
      (operation .erase (.releasing 1 2) [] [40, 41]).due ≤ (advance 0 awake).now ∧
      (operation .erase (.releasing 1 2) [] [40, 41]).oldChain = 40 :: 41 :: []) ∧
    (operation .erase (.releasing 2 2) [] [41]).oldChain = [41] ∧
    ((operation .store (.releasing 1 2) [3, 7] []).newChain = 3 :: 7 :: [] ∧
      (operation .store (.releasing 1 2) [3, 7] []).oldChain = []) ∧
    (operation .store (.releasing 2 2) [7] []).newChain = [7] := by
  decide +kernel

/-- The same with slot 12 EMPTY. -/
def operatingEmpty (kind : LibKind) (phase : LibPhase) (new : List Nat) : State :=
  { awake with lib := { awake.lib with op := some (operation kind phase new []) } }

theorem witness_commitReplacesEntry :
    ((advance 0 (operatingEmpty .store .committing [3, 7])).lib.op = some (operation .store .committing [3, 7] []) ∧
      (advance 0 (operatingEmpty .store .committing [3, 7])).rcg.press = none ∧
      (operation .store .committing [3, 7] []).due ≤ (advance 0 awake).now ∧
      Table.get (advance 0 (operatingEmpty .store .committing [3, 7])).lib.directory 12 = none) ∧
    ((advance 0 (operating .store .committing [3, 7] [])).lib.op = some (operation .store .committing [3, 7] []) ∧
      Table.get (advance 0 (operating .store .committing [3, 7] [])).lib.directory 12 =
        some { flags := recognized, size := 56, chain := [40, 41], check := 0 }) ∧
    ((advance 0 (operating .erase .committing [] [])).lib.op = some (operation .erase .committing [] []) ∧
      Table.wf (advance 0 (operating .erase .committing [] [])).lib.directory = true) ∧
    (advance 0 (operating .setFlags .committing [] [])).lib.op = some (operation .setFlags .committing [] []) ∧
    ({ operation .setFlags .committing [] [] with due := sec 1 + 1 } : LibOp).due > (advance 0 awake).now := by
  decide +kernel

/-- The index entry of the record learned in Section 5.9. -/
def entry59 : IndexEntry := indexEntry learned59 { recognize := true, notify := true, wake := true }
/-- The awake state with slot 5 in the index. -/
def indexed : State := { awake with rcg := { awake.rcg with index := [(5, entry59)] } }
/-- The same with a press on slot 5. -/
def pressing : State := { indexed with rcg := { indexed.rcg with press := some press } }

theorem witness_commitNewsActsOnPress :
    (recognized.recognize = true ∧ NewsKind.record ≠ .flags) ∧ Table.wf pressing.rcg.index = true ∧
    SlotFlags.clear.recognize = false ∧ Table.get pressing.rcg.index 5 = some entry59 ∧
    (pressing.rcg.press = some press ∧ press.slot = 5) ∧ Table.get pressing.rcg.index 6 = none ∧ press.slot ≠ 6 := by
  decide +kernel

theorem witness_eraseAndFlagsBeginCommit :
    (PortReady .erase (advance 0 stored) ∧ PortReady .setCodeFlags (advance 0 stored)) ∧
    (128 ≤ (0x80 : Byte).toNat ∧ 8 ≤ (0x08 : Byte).toNat) ∧
    ((12 : Byte).toNat < 128 ∧ (0x07 : Byte).toNat < 8 ∧
      PortReady .erase (advance 0 (operating .erase .committing [] [])) ∧
      PortReady .setCodeFlags (advance 0 (operating .erase .committing [] [])) ∧
      (advance 0 (operating .erase .committing [] [])).lib.op ≠ none) ∧
    ((127 : Byte).toNat < 128 ∧ (advance 0 stored).lib.op = none ∧
      Table.get (advance 0 stored).lib.directory (127 : Byte).toNat = none) ∧
    Table.get (advance 0 stored).lib.directory (12 : Byte).toNat ≠ none := by
  unfold PortReady PortOpen StandbySettled; decide +kernel

theorem witness_codesReadBack :
    (PortReady .readCode (advance 0 stored) ∧ PortReady .listCodes (advance 0 stored)) ∧
    Table.get (advance 0 stored).lib.directory (127 : Byte).toNat = none ∧
    Table.get (advance 0 stored).lib.directory (12 : Byte).toNat =
      some { flags := recognized, size := 56, chain := [40, 41], check := 0 } ∧
    30 ≤ (30 : Byte).toNat ∧ ((127 : Byte).toNat < 128 ∧ 1 ≤ (29 : Byte).toNat ∧ (29 : Byte).toNat ≤ 29) := by
  unfold PortReady PortOpen StandbySettled; decide +kernel

/-! #### Capture -/

/-- A SENSE context with the input at a level. -/
def sensed (level : Bool) (c : Context) : State :=
  { awake with cap := { awake.cap with sense := c, rxs := level } }
/-- In a gap of a frame, since `n` µs, RXS high. -/
def gapOf (n : Nat) : Context := { inGap with gapFrom := some (sec 1 - us n) }
/-- A candidate since `n` µs in a context, RXS low. -/
def candidate (c : Context) (n : Nat) : Context := { c with mark := some (sec 1 - us n) }

theorem witness_senseEdges_rise :
    (StandbySettled (advance 0 (sensed true idleSense)) ∧ (advance 0 (sensed true idleSense)).cap.rxs ≠ idleSense.invert ∧
      idleSense.group = none ∧ idleSense.quietFrom = none ∧ idleSense.mark = none ∧ idleSense.entered = false ∧
      idleSense.state = .idle ∧ idleSense.armed = true ∧ 0 < idleSense.glitchLimit) ∧
    ({ idleSense with glitchLimit := 0 } : Context).glitchLimit = 0 ∧
    ({ idleSense with armed := false } : Context).armed = false ∧
    ((gapOf 59).state = .inFrame ∧ (gapOf 59).gapFrom = some (sec 1 - us 59) ∧
      (advance 0 (sensed true (gapOf 59))).now ≤ sec 1 - us 59 + min (40000 * (gapOf 59).frameGap) 2600000 ∧
      40 * ((advance 0 (sensed true (gapOf 59))).now / 40) < sec 1 - us 59 + 40 * (gapOf 59).glitchLimit ∧
      (advance 0 (sensed true (gapOf 59))).now < (gapOf 59).lastStart + 2600000) ∧
    ((advance 0 (sensed true (gapOf 60))).now < sec 1 - us 60 + min (40000 * (gapOf 60).frameGap) 2600000 ∧
      sec 1 - us 60 + 40 * (gapOf 60).glitchLimit ≤ 40 * ((advance 0 (sensed true (gapOf 60))).now / 40) ∧
      0 < (gapOf 60).glitchLimit) ∧
    (let c := { idleSense with state := .settling, gapFrom := some (sec 1 - ms 15) };
      (advance 0 (sensed true c)).now ≤ sec 1 - ms 15 + 40000 * c.frameGap ∧ c.state = .settling) ∧
    idleSense.enterMasked.state = .masked := by
  unfold StandbySettled; decide +kernel

theorem witness_senseEdges_fall :
    (let c := candidate idleSense 59;
      StandbySettled (advance 0 (sensed false c)) ∧ (advance 0 (sensed false c)).cap.rxs = c.invert ∧ c.group = none ∧
        c.state = .idle ∧ c.armed = true ∧ c.mark = some (sec 1 - us 59) ∧ c.entered = false ∧
        (advance 0 (sensed false c)).now < sec 1 - us 59 + 40 * c.glitchLimit) ∧
    (inMark.state = .inFrame ∧ inMark.mark = some (sec 1 - us 560) ∧ inMark.entered = true ∧
      (advance 0 (sensed false inMark)).now < sec 1 - us 560 + 2600000) ∧
    (let c := candidate (gapOf 119) 59;
      c.state = .inFrame ∧ c.mark = some (sec 1 - us 59) ∧ c.entered = false ∧ c.gapFrom = some (sec 1 - us 119) ∧
        (advance 0 (sensed false c)).now < sec 1 - us 59 + 40 * c.glitchLimit ∧
        (advance 0 (sensed false c)).now ≤ sec 1 - us 119 + min (40000 * c.frameGap) 2600000) ∧
    (let c := { idleSense with armed := false }; c.state = .idle ∧ c.mark = none ∧ (sensed false c).cap.rxs = c.invert) ∧
    ({ idleSense with state := .settling } : Context).state = .settling := by
  unfold StandbySettled; decide +kernel

theorem witness_senseTimedEvents :
    (let c := candidate idleSense 60;
      StandbySettled (advance 0 (sensed false c)) ∧ (advance 0 (sensed false c)).cap.rxs = c.invert ∧
        c.mark = some (sec 1 - us 60) ∧ c.entered = false ∧ c.state = .idle ∧
        sec 1 - us 60 + 40 * c.glitchLimit ≤ (advance 0 (sensed false c)).now) ∧
    (let c := candidate (gapOf 1000) 60;
      c.state = .inFrame ∧ c.gapFrom = some (sec 1 - us 1000) ∧ c.buffer.length < 383 ∧
        sec 1 - us 60 + 40 * c.glitchLimit ≤ sec 1 - us 1000 + min (40000 * c.frameGap) 2600000 ∧
        sec 1 - us 60 < sec 1 - us 1000 + min (40000 * c.frameGap) 2600000) ∧
    (let c := { candidate (gapOf 1000) 60 with buffer := List.replicate 383 560 };
      383 ≤ c.buffer.length ∧ c.state = .inFrame ∧ attachedTo (advance 0 (sensed false c)) .sense = none) ∧
    ((advance 0 (sensed false (candidate idleSense 59))).now < sec 1 - us 59 + 40 * idleSense.glitchLimit) ∧
    (let c := { inMark with mark := some (sec 1 - us 65000) };
      c.state = .inFrame ∧ c.entered = true ∧ (sensed false c).cap.rxs = c.invert ∧
        attachedTo (advance 0 (sensed false c)) .sense = none ∧
        sec 1 - us 65000 + 2600000 ≤ (advance 0 (sensed false c)).now) ∧
    (advance 0 (sensed false inMark)).now < sec 1 - us 560 + 2600000 ∧
    (let c := { idleSense with state := .settling, gapFrom := some (sec 1 - ms 15) };
      (sensed true c).cap.rxs ≠ c.invert ∧ sec 1 - ms 15 + 40000 * c.frameGap ≤ (advance 0 (sensed true c)).now) ∧
    (advance 0 awake).now < (sec 1 - ms 15 + 1) + 40000 * idleSense.frameGap := by
  unfold StandbySettled; decide +kernel

theorem witness_senseFrameDelivered :
    (inGap.state = .inFrame ∧ inGap.entered = false ∧ inGap.gapFrom = some (sec 1 - ms 15) ∧ inGap.group = none ∧
      sec 1 - ms 15 + min (40000 * inGap.frameGap) 2600000 ≤ (advance 0 (sensed true inGap)).now ∧
      attachedTo (advance 0 (sensed true inGap)) .sense = none) ∧
    (let c := candidate inGap 60;
      c.mark = some (sec 1 - us 60) ∧ sec 1 - ms 15 + min (40000 * c.frameGap) 2600000 ≤ sec 1 - us 60 + 40 * c.glitchLimit) ∧
    attachedTo (advance 0 { sensing inGap with lrn := (inSession (session .waitingFirst .sense [])).lrn }) .sense ≠ none ∧
    (advance 0 (sensed true (gapOf 14999))).now < sec 1 - us 14999 + min (40000 * inGap.frameGap) 2600000 := by
  decide +kernel

/-- The LEARN context with the pin RXL high. -/
def pulsing (c : Context) : State := { learning c with cap := { (learning c).cap with rxl := true } }
/-- A group whose last pulse ended `n` ticks ago. -/
def groupEnded (n : Nat) : PulseGroup := { groupA with lastEnd := sec 1 - n }

theorem witness_learnPulsesGroup :
    (StandbySettled (advance 0 (learning idleLearn)) ∧ idleLearn.state = .idle ∧ idleLearn.armed = true ∧
      idleLearn.mark = none ∧ idleLearn.entered = false ∧ idleLearn.group = none ∧
      (learning idleLearn).cap.rxl = idleLearn.invert ∧ 0 < idleLearn.glitchLimit) ∧
    (let c := { inGroup with group := some (groupEnded 3999) };
      c.state = .inFrame ∧ c.mark = some (sec 1 - us 583) ∧ c.entered = true ∧ (learning c).cap.rxl = c.invert ∧
        (advance 0 (learning c)).now < (groupEnded 3999).lastEnd + 4000 ∧
        (advance 0 (learning c)).now < sec 1 - us 583 + 2600000) ∧
    ((pulsing inGroup).cap.rxl ≠ inGroup.invert ∧ inGroup.group = some groupA ∧
      (advance 0 (pulsing inGroup)).now < max (sec 1 - us 583 + 2600000) groupA.last) ∧
    ((learning inGroup).cap.rxl = inGroup.invert ∧ groupA.lastEnd + 4000 ≤ (advance 0 (learning inGroup)).now) ∧
    (let c := { inGroup with state := .idle, armed := true, entered := false };
      c.state = .idle ∧ c.mark = some (sec 1 - us 583) ∧ c.group = some groupA) ∧
    (let c := { idleLearn with armed := false, quietFrom := some (sec 1 - 4000) };
      c.state = .idle ∧ (learning c).cap.rxl = c.invert ∧ sec 1 - 4000 + 4000 ≤ (advance 0 (learning c)).now) ∧
    (let c := { inGroup with state := .idle, armed := true, entered := false, mark := some (sec 1 - us 60) };
      (pulsing c).cap.rxl ≠ c.invert ∧ max (sec 1 - us 60 + 40 * c.glitchLimit) groupA.last ≤ (advance 0 (pulsing c)).now) ∧
    (let c := { inGroup with mark := some (sec 1 - us 65000) };
      let s := { pulsing c with lrn := (inSession (session .waitingFirst .learn [])).lrn };
      max (sec 1 - us 65000 + 2600000) groupA.last ≤ (advance 0 s).now ∧
        attachedTo (advance 0 s) .learn = some (session .waitingFirst .learn [])) ∧
    (let c := { idleLearn with state := .settling, gapFrom := some (sec 1 - ms 15) };
      (learning c).cap.rxl = c.invert ∧ sec 1 - ms 15 + 40000 * c.frameGap ≤ (advance 0 (learning c)).now) := by
  unfold StandbySettled; decide +kernel

/-- The LEARN context at the end of the frame of Section 4.10. -/
def learnGap : Context :=
  { inGroup with
    mark := none, entered := false, group := none, groups := [groupA], buffer := [483, 600, 483, 1600, 983]
    gapFrom := some (sec 1 - ms 15) }

theorem witness_learnFrameMeasured :
    (learnGap.state = .inFrame ∧ learnGap.entered = false ∧ learnGap.mark = none ∧ learnGap.group = none ∧
      sec 1 - ms 15 + min (40000 * learnGap.frameGap) 2600000 ≤ (advance 0 (learning learnGap)).now) ∧
    ((600 : Nat) = 0 ∨ (200 ≤ 600 ∧ 600 ≤ 600) ∨ (3500 ≤ 600 ∧ 600 ≤ 5000)) ∧
    (attachedTo (inSession (session .waitingFirst .learn [])) .learn = some (session .waitingFirst .learn []) ∧
      (session .waitingFirst .learn []).state = .waitingFirst ∧
      ¬((601 : Nat) = 0 ∨ (200 ≤ 601 ∧ 601 ≤ 600) ∨ (3500 ≤ 601 ∧ 601 ≤ 5000))) ∧
    ∀ g ∈ [PulseGroup.first_ 0], g.count ≤ 1 := by
  decide +kernel
/-- Two groups of 2 pulses 25 µs apart and 3 pulses 50 µs apart: a mean period of (2 · 1000 + 3 · 2000) / 5 ticks. -/
theorem witness_learnFrameMeasured_groups :
    let gs : List PulseGroup :=
      [{ count := 2, first := 0, last := 1000, lastEnd := 1500, widths := 1000 },
       { count := 3, first := 5000, last := 9000, lastEnd := 9500, widths := 1500 }]
    (gs.map fun g => (g.count : ℚ) * (((g.last - g.first : Nat) : ℚ) / ((g.count : ℚ) - 1))).sum /
        (gs.map fun g => (g.count : ℚ)).sum = 1600 ∧ (1600 : ℚ) ≠ 0 ∧
      measureGroups gs = { carrier := 250, duty := 33 } := by
  refine ⟨by norm_num, by norm_num, by decide +kernel⟩

/-- The awake state with the mask window of EC1 open. -/
def maskedAwake : State := channelled { Channel.reset with window := .closing (sec 1) }

theorem witness_maskingDiscardsFrames :
    (awaiting awake .sense = none ∧ awaiting awake .learn = none) ∧
    (let x := { session .collecting .learn frames59 with closing := true };
      awaiting { inSession x with cap := (learning learnGap).cap } .learn = some x) ∧
    maskingPresent maskedAwake = true ∧ maskingPresent awake = false := by
  decide +kernel
/-- The awake state with SENSE_ENABLE at 0 and its context OFF. -/
def senseOff : State :=
  { sensing Context.reset with opc := { awake.opc with params := { Params.reset with senseEnable := 0 } } }
/-- FRAME_GAP 20, SENSE_ENABLE at a value, MASK_TAIL 6. -/
def configureSense (v : Byte) : List Byte := [0x01, 0x14, 0x00, 0x0B, v, 0x00, 0x0E, 0x06, 0x00]
theorem witness_maskingDiscardsFrames_configure :
    (PortReady .configure (advance 0 awake) ∧ configPairs (configureSense 0) = [(1, 20)] ++ (0x0B, 0) :: [(14, 6)] ∧
      (∀ y ∈ configPairs (configureSense 0), paramOk y.1 y.2 = true) ∧ (∀ y ∈ [(1, 20)] ++ [(14, 6)], y.1 ≠ 0x0B) ∧
      (configureSense 0).length ≤ 42 ∧ (configureSense 0).length % 3 = 0 ∧
      (advance 0 awake).opc.params.senseEnable = 1 ∧ awaiting (advance 0 awake) .sense = none) ∧
    (let x := { session .collecting .sense frames59 with closing := true };
      let s := { inSession x with cap := (sensing inGap).cap };
      PortReady .configure (advance 0 s) ∧ awaiting (advance 0 s) .sense = some x) ∧
    (PortReady .configure (advance 0 senseOff) ∧ (advance 0 senseOff).opc.params.senseEnable = 0 ∧
      maskingPresent (advance 0 senseOff) = false ∧ (∀ y ∈ configPairs (configureSense 1), paramOk y.1 y.2 = true)) ∧
    (let s := { senseOff with channels := maskedAwake.channels };
      PortReady .configure (advance 0 s) ∧ maskingPresent (advance 0 s) = true) := by
  unfold PortReady PortOpen StandbySettled; decide +kernel
/-- R57, R58 with R42: the context settles with the FRAME_GAP of a pair before SENSE_ENABLE. -/
theorem test_senseEnabled :
    (after (.configure 0 1 (configureSense 1)) senseOff).cap.sense.state = .settling ∧
      (after (.configure 0 1 (configureSense 1)) senseOff).cap.sense.frameGap = 20 ∧
      (after (.configure 0 1 (configureSense 0)) awake).cap.sense.state = .off := by
  decide +kernel

/-! #### Learning -/

theorem witness_learnRequests :
    (PortReady .learnStart (advance 0 awake) ∧ PortReady .learnStop (advance 0 awake) ∧
      PortReady .readStaged (advance 0 awake)) ∧
    ((2 : Byte).toNat ≥ 2 ∧ (61 : Byte).toNat > 60) ∧
    ((0x01 : Byte).toNat < 2 ∧ (60 : Byte).toNat ≤ 60 ∧
      (advance 0 (inSession (session .waitingFirst .learn []))).lrn.session = some (session .waitingFirst .learn []) ∧
      PortReady .learnStart (advance 0 (inSession (session .waitingFirst .learn []))) ∧
      PortReady .learnStop (advance 0 (inSession (session .waitingFirst .learn [])))) ∧
    ((advance 0 awake).lrn.session = none ∧ maskingPresent (advance 0 awake) = false ∧ (380 : Word16).toNat = 380) ∧
    (session .collecting .learn []).state = .collecting ∧
    (PortReady .learnStart (advance 0 maskedAwake) ∧ (advance 0 maskedAwake).lrn.session = none ∧
      maskingPresent (advance 0 maskedAwake) = true) := by
  unfold PortReady PortOpen StandbySettled; decide +kernel
theorem witness_learnRequests_reduced :
    (PortReady .learnStop (advance 0 (inSession (session .collecting .sense frames59))) ∧
      (session .collecting .sense frames59).reduce = .ok learned59) ∧
    (let s := { awake with lrn := { session := none, staged := some tvPower } };
      PortReady .readStaged (advance 0 s) ∧ (advance 0 s).lrn.staged = some tvPower) := by
  unfold PortReady PortOpen StandbySettled; decide +kernel

/-- A frame set of nine classes, which reduction refuses (R72). -/
def nineClasses : List Frame :=
  [{ durations := [100, 200, 300, 400, 500, 600, 700, 900, 1100], start := 0, stop := 0 }]
theorem witness_learnRequests_refused :
    (session .collecting .sense nineClasses).reduce = .error .tooManyClasses := by decide +kernel

theorem witness_sessionTimersExpire :
    (let x := session .waitingFirst .learn [];
      (advance 0 (inSession x)).lrn.session = some x ∧ x.state = .waitingFirst ∧ x.windowDue = some (sec 1) ∧
        sec 1 ≤ (advance 0 (inSession x)).now) ∧
    (let x := { session .waitingFirst .learn [] with windowDue := some (sec 1 + 1) };
      x.windowDue = some (sec 1 + 1) ∧ (advance 0 (inSession x)).now < sec 1 + 1) ∧
    (let x := session .collecting .learn frames59;
      x.state = .collecting ∧ x.gapExpiry = some 1000000 ∧
        (BitVec.ofNat 32 ((advance 0 (inSession x)).now / 40) - (1000000 : Stamp)).msb = false ∧
        ((learning learnGap).cap.context x.source).state = .inFrame ∧
        ((advance 0 (inSession x)).cap.context x.source).state ≠ .inFrame) ∧
    (session .collecting .sense nineClasses).reduce = .error .tooManyClasses ∧
    (session .collecting .sense frames59).reduce = .ok learned59 ∧
    (let x := { session .collecting .learn frames59 with gapExpiry := some (1000001 : Stamp) };
      (BitVec.ofNat 32 ((advance 0 (inSession x)).now / 40) - (1000001 : Stamp)).msb = true) := by
  decide +kernel

/-- A frame that began at a stamp and ended now. -/
def frameFrom (start : Stamp) : Frame := { durations := [560], start := start, stop := 985000 }

theorem witness_sessionTakesFrames :
    awake.lrn.session = none ∧
    (let x := { session .waitingFirst .sense [] with start := (900001 : Stamp) };
      (inSession x).lrn.session = some x ∧ x.state = .waitingFirst ∧ ((frameFrom 900000).start - x.start).msb = true) ∧
    (let x := { session .waitingFirst .sense [] with start := (900000 : Stamp) };
      ((frameFrom 900000).start - x.start).msb = false ∧
        (BitVec.ofNat 32 (awake.now / 40) -
          ((frameFrom 900000).stop + BitVec.ofNat 32 (1000 * awake.opc.params.learnEndGap))).msb = true) ∧
    (let x := { session .collecting .sense [frameFrom 0, frameFrom 0] with gapExpiry := some (900001 : Stamp) };
      x.state = .collecting ∧ ((frameFrom 900000).start - (900001 : Stamp)).msb = true ∧ x.frames.length < 3) ∧
    (let x := { session .collecting .sense [frameFrom 0, frameFrom 0, frameFrom 0] with gapExpiry := some (900000 : Stamp) };
      ((frameFrom 900000).start - (900000 : Stamp)).msb = false ∧ x.frames.length < 4 ∧ x.frames.length = 3 ∧
        ((frameFrom 899999).start - (900000 : Stamp)).msb = true) ∧
    (BitVec.ofNat 32 (awake.now / 40) -
      ((985000 : Stamp) + BitVec.ofNat 32 (1000 * awake.opc.params.learnEndGap))).msb = true := by
  decide +kernel

theorem witness_reducedRecordIsValid :
    let x := session .collecting .sense frames59
    (∀ f ∈ x.frames, f.durations.length % 2 = 1 ∧ f.durations.length ≤ 383 ∧ ∀ d ∈ f.durations, 1 ≤ d ∧ d ≤ 64999) ∧
      carrierOk x.carrierDuty.carrier = true ∧
      (x.carrierDuty.duty = 25 ∨ x.carrierDuty.duty = 33 ∨ x.carrierDuty.duty = 50) ∧ x.reduce = .ok learned59 := by
  decide +kernel

/-! #### Recognition -/

/-- The body and the repeat frame of Section 6.8, and a frame of slot 5's press that is neither. -/
def body68 : List Nat := (frames59.map (·.durations))[0]!
def repeat68 : List Nat := [3240, 790, 410]

theorem witness_searchFollowsOrder :
    (∀ q ∈ ([⟨4, some 3⟩] : List Pair), q.space ≠ none) ∧ (⟨0, none⟩ : Pair).space = none ∧
    (pressing.rcg.press = some press ∧ Table.get pressing.rcg.index press.slot = some entry59 ∧
      matchesList 20 entry59.classes entry59.later repeat68 = true) ∧
    (indexed.rcg.press = none ∧ Table.wf indexed.rcg.index = true) ∧
    (matchesList 20 entry59.classes entry59.body [560] ≠ true ∧
      matchesList 20 entry59.classes entry59.later [560] = false) := by
  decide +kernel

/-- A code other than slot 5 in the index, in slot 12: TV POWER. -/
def twoIndexed : State :=
  { pressing with rcg := { pressing.rcg with index := [(5, entry59), (12, indexEntry tvPower recognized)] } }
/-- A frame of TV POWER. -/
def tvFrame : List Nat := tvPower.frameDurations 1
/-- A press with a count. -/
def counted (n : Nat) : State := { pressing with rcg := { pressing.rcg with press := some { press with count := n } } }
/-- Slot 5 in the index without NOTIFY. -/
def quiet : State := { awake with rcg := { awake.rcg with index := [(5, { entry59 with notify := false })] } }

theorem witness_framesDrivePress :
    (indexed.rcg.press = none ∧ search indexed.rcg indexed.opc.params.matchTolerance body68 = .body 5 ∧
      Table.get indexed.rcg.index 5 = some entry59 ∧ entry59.notify = true) ∧
    (search quiet.rcg quiet.opc.params.matchTolerance body68 = .body 5 ∧
      Table.get quiet.rcg.index 5 = some { entry59 with notify := false }) ∧
    ((counted 65535).rcg.press = some { press with count := 65535 } ∧
      search (counted 65535).rcg (counted 65535).opc.params.matchTolerance repeat68 = .continuation) ∧
    ((counted 3).rcg.press = some { press with count := 3 } ∧
      search (counted 3).rcg (counted 3).opc.params.matchTolerance repeat68 = .continuation ∧
      (counted 3).opc.params.holdReportEvery ≠ 0 ∧ (3 + 1) % (counted 3).opc.params.holdReportEvery = 0) ∧
    (twoIndexed.rcg.press = some press ∧ search twoIndexed.rcg twoIndexed.opc.params.matchTolerance tvFrame = .body 12) ∧
    (search awake.rcg awake.opc.params.matchTolerance [560] = .unknown ∧ awake.opc.params.reportUnknown = 1) ∧
    ((advance 0 pressing).rcg.press = some press ∧ press.due ≤ (advance 0 pressing).now) ∧
    (let p := { press with due := sec 1 + 1 }; (advance 0 pressing).now < p.due) ∧
    (advance 0 awake).rcg.press = none := by
  decide +kernel

theorem witness_standbyFramesFiltered :
    (let s := { inStandby with rcg := indexed.rcg };
      s.opc.state = .standby ∧ firstBody s.opc.params.matchTolerance body68 s.rcg.index = some (5, entry59) ∧
        entry59.wake = true) ∧
    (let s := { inStandby with rcg := { indexed.rcg with index := [(5, { entry59 with wake := false })] } };
      firstBody s.opc.params.matchTolerance body68 s.rcg.index = some (5, { entry59 with wake := false })) ∧
    firstBody inStandby.opc.params.matchTolerance body68 inStandby.rcg.index = none ∧
    wakingState.opc.state = .waking ∧ State.reset.opc.state = .mounting ∧ awake.opc.state = .awake ∧
    Table.wf indexed.rcg.index = true := by
  decide +kernel

/-! #### Jobs, channels and routes -/

/-- A frame as short as a record allows, of one mark, in progress and ending now. -/
def oneMarkRun : FrameRun := { start := sec 1 - us 600, element := 0, stop := sec 1 }
/-- The play of that record. -/
def playsOne (r : Record) (n : Nat) : Play := { snapshot := some r, stepFrames := n, phase := .frame oneMarkRun }
/-- A full queue of E1. -/
def fullQueue : State := { stored with ems := { stored.ems with queues := { e0 := [], e1 := [1, 2, 3, 4, 5, 6, 7, 8], e2 := [], e3 := [] } } }
/-- EC1 OFF, in FAULT. -/
def offE1 : State := channelled { Channel.reset with mode := .off }
def faultE1 : State := channelled { Channel.reset with mode := .fault .short }
/-- A full job table. -/
def fullTable : State := { stored with ems := { stored.ems with jobs := List.replicate 32 (job (.send 12 1) .queued none) } }

theorem witness_requestsAdmitJobs :
    (PortReady .send (advance 0 stored) ∧ PortReady .hold (advance 0 stored) ∧ PortReady .sequence (advance 0 stored)) ∧
    ¬(1 ≤ (0x10 : Byte).toNat ∧ (0x10 : Byte).toNat ≤ 15) ∧ 121 ≤ (121 : Byte).toNat ∧
    ((1 ≤ (0x0F : Byte).toNat ∧ (0x0F : Byte).toNat ≤ 15) ∧ (127 : Byte).toNat < 128 ∧ (120 : Byte).toNat ≤ 120 ∧
      PortReady .send (advance 0 fullQueue) ∧ admissionRefusal (advance 0 fullQueue) 2 = some .queueFull) ∧
    admissionRefusal (advance 0 stored) 15 = none ∧
    (([0x00, 0x0C, 0x01, 0x01] : List Byte).length % 3 ≠ 0 ∧ sequenceSteps [0x02, 0x0C, 0x01] = none ∧
      sequenceSteps [0x00, 0x0C, 0x01] = some [.send 12 1] ∧ ([0x00, 0x0C, 0x01] : List Byte).length % 3 = 0) := by
  unfold PortReady PortOpen StandbySettled; decide +kernel

theorem witness_admissionConditions :
    admissionRefusal offE1 2 = some .emitterOff ∧ admissionRefusal faultE1 3 = some .emitterFault ∧
      admissionRefusal fullTable 2 = some .tableFull ∧ admissionRefusal fullQueue 2 = some .queueFull ∧
      admissionRefusal fullQueue 13 = none := by
  decide +kernel

theorem witness_nextIdIsFreshAndFirst :
    let m : Ems := { Ems.reset with lastId := 255, recent := [{ id := 1, outcome := .done, framesSent := 1 }] }
    m.jobs.length ≤ 32 ∧ m.recent.length ≤ 8 ∧ m.lastId ≤ 255 ∧ nextId m = 2 := by
  decide +kernel

theorem witness_activationTakesSnapshot :
    (let j := job (.send 11 1) .queued none; findJob (emitting j) 42 = some j ∧ committedRecord (emitting j) 11 = none) ∧
    (let j := job (.send 12 1) .queued none;
      findJob (emitting j) 42 = some j ∧ committedRecord (emitting j) 12 = some tvPower ∧ j.early = false) ∧
    (let j := { job (.hold 12 1) .queued none with early := true }; findJob (emitting j) 42 = some j) ∧
    (let j := job (.sequence [.pause 1]) .queued none; findJob (emitting j) 42 = some j) ∧
    (let j := job (.sequence [.send 12 1]) .queued none; findJob (emitting j) 42 = some j) ∧
    (let j := job (.sequence [.send 11 1]) .queued none;
      findJob (emitting j) 42 = some j ∧ committedRecord (emitting j) 11 = none) ∧
    ((stored.channels.get .e1).ready = none ∧ hasEmitter 2 .e1 = true) := by
  decide +kernel

theorem witness_examinationIsComplete :
    firstActivatable stored = none ∧ firstActivatable (emitting (job (.send 12 1) .queued none)) = some 42 ∧
    (let j := job (.send 12 1) .queued none;
      let s := { emitting j with ems := { (emitting j).ems with queues := { e0 := [], e1 := [41, 42], e2 := [], e3 := [] } } };
      firstActivatable s = none ∧ findJob s 42 = some j ∧ j.state = .queued ∧ maskEmitters j.mask ≠ []) := by
  decide +kernel

theorem witness_jobsStopAndEnd :
    (let j := job (.send 12 3) .active (some (plays 0 0));
      findJob (emitting j) 42 = some j ∧ j.play = some (plays 0 0) ∧ (plays 0 0).snapshot = some tvPower ∧
        participants (emitting j) j ≠ []) ∧
    (let j := job (.send 12 3) .active (some (plays 0 0));
      participants { emitting j with channels := faultE1.channels } j = []) ∧
    (plays 0 0).phase = .frame { start := sec 1 - us 8000, element := 0, stop := sec 1 } ∧
    ((waits 1).phase = .gap (sec 1) ∧ tvPower.minFrames ≤ (waits 1).stepFrames) ∧
    ((waits 0).phase = .gap (sec 1) ∧ JobOutcome.released ≠ .cancelled ∧ (waits 0).stepFrames < tvPower.minFrames) ∧
    (job (.send 12 3) .active none).origin = .host 0x0A ∧
    (let p : Play := { snapshot := none, stepFrames := 0, phase := .pause (sec 1) };
      let j := job (.sequence [.pause 10]) .active (some p);
      findJob (emitting j) 42 = some j ∧ j.play = some p ∧ p.phase = .pause (sec 1) ∧ participants (emitting j) j ≠ []) ∧
    (stepping (.stepGap (sec 1))).play.map (·.phase) = some (.stepGap (sec 1)) := by
  decide +kernel

/-- The stored state with a job that ended. -/
def ended42 : State :=
  { stored with ems := { stored.ems with recent := [{ id := 42, outcome := .done, framesSent := 3 }] } }

theorem witness_jobRequestsAnswered :
    (let j := job (.send 12 3) .queued none;
      PortReady .cancel (advance 0 (emitting j)) ∧ PortReady .release (advance 0 (emitting j)) ∧
        findJob (advance 0 (emitting j)) (42 : Byte).toNat = some j ∧ j.state = .queued ∧ j.isHold = false) ∧
    (let j := job (.hold 12 1) .active (some (waits 0));
      findJob (advance 0 (emitting j)) (42 : Byte).toNat = some j ∧ j.isHold = true ∧ j.state = .active) ∧
    (let j := job (.hold 12 1) (.ending .released) (some (waits 0));
      findJob (advance 0 (emitting j)) (42 : Byte).toNat = some j ∧ j.state = .ending .released) ∧
    (let j := job (.sequence [.send 12 1]) .queued none;
      PortReady .jobStatus (advance 0 (emitting j)) ∧ findJob (advance 0 (emitting j)) (42 : Byte).toNat = some j ∧
        j.state = .queued) := by
  unfold PortReady PortOpen StandbySettled; decide +kernel
theorem witness_jobRequestsAnswered_ended :
    (PortReady .cancel (advance 0 ended42) ∧ PortReady .jobStatus (advance 0 ended42) ∧
      PortReady .flush (advance 0 ended42) ∧ findJob (advance 0 ended42) (42 : Byte).toNat = none ∧
      findEnded (advance 0 ended42) (42 : Byte).toNat = some { id := 42, outcome := .done, framesSent := 3 }) ∧
    (findJob (advance 0 stored) (42 : Byte).toNat = none ∧ findEnded (advance 0 stored) (42 : Byte).toNat = none ∧
      ∀ r ∈ (advance 0 stored).ems.recent, r.id ≠ (42 : Byte).toNat) ∧
    (16 ≤ (16 : Byte).toNat ∧ 1 ≤ (15 : Byte).toNat ∧ (15 : Byte).toNat ≤ 15) := by
  unfold PortReady PortOpen StandbySettled; decide +kernel

theorem witness_emitterControlActs :
    (PortReady .emitterControl (advance 0 awake) ∧ 4 ≤ (4 : Byte).toNat ∧ (1 : Byte).toNat = emitterNumber .e1 ∧
      ((advance 0 awake).channels.get .e1).mode = .on ∧ (advance 0 awake).ems.queues.get .e1 = []) ∧
    (let s := emitting (job (.send 12 3) .queued none);
      PortReady .emitterControl (advance 0 s) ∧ channelState (advance 0 s) .e1 = .waiting) ∧
    (let s := emitting (job (.send 12 3) .active (some (waits 0)));
      PortReady .emitterControl (advance 0 s) ∧ channelState (advance 0 s) .e1 = .busy) ∧
    (PortReady .emitterControl (advance 0 offE1) ∧ ((advance 0 offE1).channels.get .e1).mode = .off) ∧
    (PortReady .emitterControl (advance 0 faultE1) ∧ ((advance 0 faultE1).channels.get .e1).mode = .fault .short) := by
  unfold PortReady PortOpen StandbySettled; decide +kernel

theorem witness_framesPlayInElements :
    (let j := job (.send 12 3) .active (some (waits 0));
      findJob (advance 0 (emitting j)) 42 = some j ∧
        j.play = some { snapshot := some tvPower, stepFrames := 0, phase := .gap (sec 1) } ∧
        (tvPower.frameDurations (0 + 1)).head? = some 8000 ∧ sec 1 ≤ (advance 0 (emitting j)).now) ∧
    (advance 0 awake).now < sec 1 + 1 ∧
    (let j := job (.send 12 3) .active (some (plays 0 1));
      j.play = some { snapshot := some tvPower, stepFrames := 0,
                      phase := .frame { start := sec 1 - us 8000, element := 1, stop := sec 1 } } ∧
        (tvPower.frameDurations (0 + 1))[1 + 1]? = some 600 ∧ sec 1 ≤ (advance 0 (emitting j)).now ∧ 1 % 2 = 1) ∧
    ((tvPower.frameDurations (0 + 1))[0 + 1]? = some 4000 ∧ 0 % 2 = 0) ∧
    ((tvPower.frameDurations (0 + 1)).length ≤ 50 + 1) := by
  decide +kernel

/-- A job of the record with one mark, in progress. -/
def marking (kind : JobKind) (state : JobState) (r : Record) (n : Nat) : Job := job kind state (some (playsOne r n))
/-- The record of one mark with a minimum of two frames. -/
def twice : Record := { oneMark with minFrames := 2 }

theorem witness_frameEndCounts :
    (let j := marking (.send 12 1) .active oneMark 0;
      findJob (advance 0 (emitting j)) 42 = some j ∧ j.play = some (playsOne oneMark 0) ∧
        oneMarkRun.element + 1 = (oneMark.frameDurations (0 + 1)).length ∧
        oneMarkRun.stop ≤ (advance 0 (emitting j)).now ∧ participants (advance 0 (emitting j)) j ≠ [] ∧
        j.state = .active ∧ max 1 oneMark.minFrames ≤ 0 + 1) ∧
    (0 + 1 < max 1 twice.minFrames ∧ oneMarkRun.element + 1 = (twice.frameDurations (0 + 1)).length) ∧
    (marking (.hold 12 1) .active oneMark 0).kind = .hold 12 1 ∧
    ((marking (.send 12 1) (.ending .cancelled) twice 0).state = .ending .cancelled) ∧
    (JobOutcome.released ≠ .cancelled ∧ 0 + 1 < twice.minFrames) ∧
    (let j := marking (.sequence [.send 12 1, .send 12 1]) .active oneMark 0;
      j.kind = .sequence [.send 12 1, .send 12 1] ∧
        ([.send 12 1, .send 12 1] : List Machine.Step)[j.step - 1]? = some (.send 12 1) ∧
        ([.send 12 1, .send 12 1] : List Machine.Step)[j.step]? = some (.send 12 1) ∧
        ([.send 12 1, .pause 5] : List Machine.Step)[j.step]? = some (.pause 5) ∧
        ([.send 12 1] : List Machine.Step)[j.step]? = none) ∧
    (advance 0 awake).now < sec 1 + 1 := by
  decide +kernel

theorem witness_stepsAndDeadlines :
    (let j := job (.sequence [.pause 10]) .active (some { snapshot := none, stepFrames := 0, phase := .pause (sec 1) });
      findJob (advance 0 (emitting j)) 42 = some j ∧ sec 1 ≤ (advance 0 (emitting j)).now ∧
        ([.pause 10] : List Machine.Step)[j.step]? = none) ∧
    (([.pause 10, .pause 5] : List Machine.Step)[1]? = some (.pause 5)) ∧
    (([.pause 10, .send 12 1] : List Machine.Step)[1]? = some (.send 12 1) ∧
      committedRecord (advance 0 (emitting (stepping (.pause (sec 1))))) 12 = some tvPower) ∧
    (findJob (advance 0 (emitting (stepping (.stepGap (sec 1))))) 42 = some (stepping (.stepGap (sec 1)))) ∧
    (committedRecord (advance 0 (emitting (stepping (.stepGap (sec 1))))) 11 = none) ∧
    (([.pause 10, .send 11 1] : List Machine.Step)[1]? = some (.send 11 1) ∧
      committedRecord (advance 0 (emitting (stepping (.pause (sec 1))))) 11 = none) ∧
    (advance 0 awake).now < sec 1 + 1 ∧
    (let j := { job (.hold 12 1) .active (some (waits 34)) with deadline := some (sec 1) };
      findJob (advance 0 (emitting j)) 42 = some j ∧ j.state = .active ∧ j.deadline = some (sec 1)) ∧
    (job (.hold 12 1) (.ending .released) (some (waits 34))).state ≠ .active := by
  decide +kernel

theorem witness_driveFaultsStopChannel :
    (((advance 0 (channelled driving)).channels.get .e1).check.head? = some (sec 1) ∧
      sec 1 ≤ (advance 0 (channelled driving)).now) ∧
    ((advance 0 awake).channels.get .e1).check = [] ∧
    ((advance 0 (channelled { driving with check := [sec 1 + 1] })).now < sec 1 + 1) ∧
    ((advance 0 (channelled driving)).channels.get .e1).out = true ∧ ((advance 0 awake).channels.get .e1).out = false ∧
    Channel.reset.window = .closed ∧ ({ driving with window := .opened (ms 5) } : Channel).window = .opened (ms 5) := by
  decide +kernel

/-- EC1 driving since `n` ticks, the next edge and the pulse count given. -/
def drivingAt (n edge pulses : Nat) : Channel :=
  { driving with
    drive := some { start := sec 1 - n, carrier := 400, duty := 50, pulses := pulses, edge := edge, raised := false } }

theorem witness_pulsesFitTheirMark :
    (StandbySettled (advance 0 (channelled (drivingAt 500 1 2))) ∧
      ((advance 0 (channelled (drivingAt 500 1 2))).channels.get .e1).drive =
        some { start := sec 1 - 500, carrier := 400, duty := 50, pulses := 2, edge := 2 * 0 + 1, raised := false } ∧
      (400 : Nat) ≠ 0 ∧ 0 + 1 < 2 ∧
      (100 * 0 + 50) * 4000 ≤ 400 * ((advance 0 (channelled (drivingAt 500 1 2))).now - (sec 1 - 500))) ∧
    (0 + 1 = 1 ∧ (drivingAt 500 1 1).drive.map (·.pulses) = some 1) ∧
    ((drivingAt 1000 2 2).drive.map (·.edge) = some (2 * 1) ∧
      1 * 400000 ≤ 400 * ((advance 0 (channelled (drivingAt 1000 2 2))).now - (sec 1 - 1000)) ∧
      400 * ((advance 0 (channelled (drivingAt 999 2 2))).now - (sec 1 - 999)) < 1 * 400000) ∧
    (StandbySettled (advance 0 maskedAwake) ∧ ((advance 0 maskedAwake).channels.get .e1).window = .closing (sec 1) ∧
      sec 1 ≤ (advance 0 maskedAwake).now ∧ (advance 0 maskedAwake).now < sec 1 + 1) ∧
    (0 < 200 ∧ 50 ≤ 50 ∧ 1 ≤ 10 ∧ nearestPulses 10 200 = 0 ∧ nearestPulses 600 380 ≠ 0 ∧ 380 ≤ 5000) := by
  unfold StandbySettled; decide +kernel

/-- Entry 1 of Table 9-3, with a link or none. -/
def mirror (link : Option Nat) : Route :=
  { source := 5, trigger := .pressed, action := .mirror, target := 12, mask := 2, frames := 0, holdLimit := 0
    report := false, link := link }
/-- Entry 0 of Table 9-3. -/
def routeSend : Route :=
  { source := 5, trigger := .pressed, action := .send, target := 12, mask := 2, frames := 1, holdLimit := 0
    report := true, link := none }
/-- The stored state with those entries. -/
def routed : State := { stored with routes := [(0, routeSend), (1, mirror none)] }

theorem witness_routeRequestsEditTable :
    (PortReady .routeSet (advance 0 routed) ∧ PortReady .routeClear (advance 0 routed) ∧
      PortReady .routeRead (advance 0 routed)) ∧
    24 ≤ (24 : Byte).toNat ∧
    ((23 : Byte).toNat < 24 ∧ (127 : Byte).toNat < 128 ∧ (126 : Byte).toNat < 128 ∧ (127 : Byte) ≠ 126 ∧
      (2 : Byte).toNat ≤ 2 ∧ 1 ≤ (15 : Byte).toNat ∧ (15 : Byte).toNat ≤ 15 ∧ (1 : Byte).toNat ≤ 1) ∧
    ((0x00 : Byte) = 0x00 ∧ (255 : Byte) ≠ 0) ∧ ((0x01 : Byte) = 0x01 ∧ (120 : Byte).toNat ≤ 120) ∧
    Table.get (advance 0 routed).routes (23 : Byte).toNat = none ∧
    Table.get (advance 0 routed).routes (1 : Byte).toNat = some (mirror none) := by
  unfold PortReady PortOpen StandbySettled; decide +kernel
/-- A HOLD that entry 1 admitted, in a state, linked to its entry. -/
def mirrored (state : JobState) : Job :=
  { job (.hold 12 10) state (if state = .queued then none else some (waits 1)) with origin := .route 1, report := false }
def linkedRoute (state : JobState) : State :=
  { emitting (mirrored state) with routes := [(0, routeSend), (1, mirror (some 42))] }
theorem witness_routeRequestsEditTable_linked :
    (∀ state ∈ [JobState.queued, .active, .ending .released],
      PortReady .routeSet (advance 0 (linkedRoute state)) ∧ PortReady .routeClear (advance 0 (linkedRoute state)) ∧
        Table.get (advance 0 (linkedRoute state)).routes (1 : Byte).toNat = some (mirror (some 42)) ∧
        findJob (advance 0 (linkedRoute state)) 42 = some (mirrored state) ∧ (mirrored state).isHold = true ∧
        Table.wf (advance 0 (linkedRoute state)).routes = true) ∧
    (after (.routeClear 0 1 1) (linkedRoute .active)).ems.recent = [{ id := 42, outcome := .released, framesSent := 0 }] := by
  unfold PortReady PortOpen StandbySettled; decide +kernel

theorem witness_routesActOnPresses :
    routed.opc.state = .awake ∧ pendingStandby.opc.state = .standbyPending ∧ Trigger.pressed ≠ .released ∧
    (inStandby.opc.state ≠ .awake ∧ inStandby.opc.state ≠ .standbyPending) ∧ Table.get routed.routes 2 = none ∧
    (Table.get routed.routes 0 = some routeSend ∧ routeSend.source ≠ 6 ∧
      (routeSend.trigger ≠ .held ∧ Trigger.held ≠ .released)) ∧
    (Table.get { routed with channels := faultE1.channels }.routes 1 = some (mirror none) ∧
      admissionRefusal { routed with channels := faultE1.channels } 2 = some .emitterFault) ∧
    (routeSend.source = 5 ∧ routeSend.trigger = .pressed ∧ routeSend.link = none ∧ routeSend.action = .send ∧
      admissionRefusal routed routeSend.mask = none) ∧
    ((mirror none).action = .mirror ∧ admissionRefusal routed (mirror none).mask = none) ∧
    (Table.get (linkedRoute .active).routes 1 = some (mirror (some 42)) ∧ (mirror (some 42)).source = 5 ∧
      (mirror (some 42)).link = some 42 ∧ findJob (linkedRoute .active) 42 = some (mirrored .active) ∧
      (mirrored .active).isHold = true) ∧
    (mirror none).trigger ≠ .released := by
  decide +kernel

/-! #### Invariants -/

/-- A HOLD of entry 1 behind the host's job on E1. -/
def secondJob : Job := { mirrored .queued with id := 43 }
/-- A part that meets every invariant with TV POWER in slot 12 and indexed, a STORE into the segments 0 and 1, two jobs, a
mirror link, an OFF channel and a session under way. -/
def busyPart : State :=
  { emitting (job (.send 12 3) .active (some (waits 0))) with
    ems :=
      { jobs := [job (.send 12 3) .active (some (waits 0)), secondJob]
        queues := { e0 := [], e1 := [42, 43], e2 := [], e3 := [] }, lastId := 43, recent := [] }
    routes := [(0, routeSend), (1, mirror (some 43))]
    channels := { awake.channels with e0 := { Channel.reset with mode := .off } }
    rcg := { Rec.reset with index := [(12, indexEntry tvPower recognized)] }
    lrn := (inSession (session .collecting .sense frames59)).lrn
    lib :=
      { stored.lib with
        free := List.range' 2 38 ++ List.range' 42 598
        op := some (operation .store (.programming 1 2) [0, 1] []) } }

theorem witness_tablesStayCanonical : TablesCanonical busyPart := by
  unfold TablesCanonical; decide +kernel
theorem witness_tablesStayCanonical_index : IndexFollowsDirectory busyPart := by
  have r : Record.ofWire (chainBytes busyPart.lib { flags := recognized, size := 56, chain := [40, 41], check := 0 }) =
      tvPower := by decide +kernel
  intro slot
  by_cases h : 12 = slot
  · subst h
    show some (indexEntry tvPower recognized) = some _
    exact congrArg (fun x => some (indexEntry x recognized)) r.symm
  · have e : Table.get busyPart.rcg.index slot = none := by simp [busyPart, Table.get, h]
    have d : Table.get busyPart.lib.directory slot = none := by simp [busyPart, stored, Table.get, h]
    rw [e, d]
theorem witness_portFollowsOperatingState : PortFollowsState busyPart ∧ QuietInStandby busyPart ∧ StandbySettled busyPart := by
  unfold PortFollowsState StandbySettled
  refine ⟨by decide +kernel, fun h => ?_, by decide +kernel⟩
  exact absurd h (by decide +kernel)
/-- The two jobs of the busy part. -/
theorem busyPart_jobs {j : Job} (hj : j ∈ busyPart.ems.jobs) :
    j = job (.send 12 3) .active (some (waits 0)) ∨ j = secondJob := by
  rcases List.mem_cons.mp hj with h | h
  · exact .inl h
  · exact .inr (List.mem_singleton.mp h)
theorem witness_queuesHoldTheirJobs : QueuesBounded busyPart ∧ JobsQueued busyPart := by
  refine ⟨⟨by decide +kernel, fun e => by cases e <;> decide +kernel, by decide +kernel, by decide +kernel⟩,
    by decide +kernel, fun j hj => ?_, fun e => by cases e <;> decide +kernel, fun e id => ?_, fun j hj hq e he => ?_⟩
  · obtain rfl | rfl := busyPart_jobs hj <;> exact ⟨by decide +kernel, by decide +kernel, by decide +kernel⟩
  · constructor
    · intro hid
      have : id = 42 ∨ id = 43 := by cases e <;> simp_all [busyPart, PerEmitter.get]
      obtain rfl | rfl := this
      · exact ⟨_, List.mem_cons_self, rfl, by cases e <;> first | decide +kernel | (exfalso; revert hid; decide +kernel)⟩
      · exact ⟨secondJob, by decide +kernel, rfl,
          by cases e <;> first | decide +kernel | (exfalso; revert hid; decide +kernel)⟩
    · rintro ⟨j, hj, rfl, he⟩
      obtain rfl | rfl := busyPart_jobs hj <;>
        (revert he; cases e <;> decide +kernel)
  · obtain rfl | rfl := busyPart_jobs hj
    · cases e <;> first | decide +kernel | (exfalso; revert he; decide +kernel)
    · exact absurd rfl hq
theorem witness_queuesHoldTheirJobs_order :
    QueuesOrdered busyPart ∧ ChannelsFollowQueues busyPart ∧ LinksNameHolds busyPart := by
  refine ⟨fun e e' a b h ha _ => ?_, fun e => ⟨fun h => ?_, fun k h => ?_, fun h => ?_⟩, fun i r id hr h => ?_⟩
  · have one : ∀ x : Emitter, busyPart.ems.queues.get x = [] ∨ x = .e1 := fun x => by
      cases x <;> first | exact .inl rfl | exact .inr rfl
    obtain h' | rfl := one e'
    · rw [h'] at ha; cases ha
    · obtain h' | rfl := one e
      · rw [h'] at h; cases h
      · exact h
  · revert h; cases e <;> decide +kernel
  · exfalso; revert h; cases e <;> cases k <;> decide +kernel
  · exfalso; revert h; cases e <;> decide +kernel
  · rcases List.mem_cons.mp hr with e | e
    · cases e; cases h
    · cases List.mem_singleton.mp e; cases h
      exact ⟨secondJob, by decide +kernel, rfl, rfl⟩
theorem witness_placesStayBounded : PlacesBounded busyPart := by
  unfold PlacesBounded; decide +kernel
theorem witness_bytesStayBounded : BytesBounded busyPart ∧ RecordsBounded busyPart := by
  refine ⟨⟨by decide +kernel, fun h hh => ?_⟩, by decide +kernel, ?_, ?_, ?_, ?_⟩
  · exact absurd hh (by rintro ⟨⟩)
  · intro op h; cases h; decide +kernel
  · intro r h; cases h
  · intro x h; cases h; decide +kernel
  · unfold Context.bounded; decide +kernel
theorem witness_segmentsStayPlaced : MountFollowsState busyPart ∧ SegmentsPlaced busyPart := by
  have e : validSegments busyPart.lib ++ busyPart.lib.free ++ opChains busyPart.lib ++ toReclaim busyPart.lib =
      [40, 41] ++ (List.range' 2 38 ++ List.range' 42 598) ++ [0, 1] := by
    rw [show toReclaim busyPart.lib = [] from rfl, List.append_nil]
    exact rfl
  unfold SegmentsPlaced
  rw [e]
  refine ⟨⟨⟨fun _ => by decide +kernel, fun _ => rfl⟩, ?_, ?_⟩, ?_, ?_, ?_, ?_, ⟨?_, fun n hn => ?_⟩, ?_⟩
  · intro h
    have h' : ¬(busyPart.pins.powered = false ∨ busyPart.pins.rstnLow = true) := by
      rw [show busyPart.pins = awake.pins from rfl]; decide +kernel
    exact absurd h h'
  · intro h; exact absurd rfl h
  · refine List.nodup_append.mpr ⟨List.nodup_append.mpr ⟨by decide, List.nodup_append.mpr
        ⟨List.nodup_range', List.nodup_range', fun a ha b hb => ?_⟩, fun a ha b hb => ?_⟩, by decide,
        fun a ha b hb => ?_⟩ <;>
      simp only [List.mem_append, List.mem_range'_1, List.mem_cons, List.not_mem_nil, or_false] at ha hb <;> omega
  · intro n hn; simp [segmentCount, List.mem_range'_1] at hn ⊢; omega
  · intro _ n hn; simp [segmentCount, List.mem_range'_1] at hn ⊢; omega
  · intro h; exact absurd (Or.inl rfl) h
  · exact List.pairwise_append.mpr ⟨List.pairwise_lt_range', List.pairwise_lt_range', fun a ha b hb => by
      rw [List.mem_range'_1] at ha hb; omega⟩
  · have hn' : n ∈ List.range' 2 38 ++ List.range' 42 598 := hn
    simp only [List.mem_append, List.mem_range'_1] at hn'
    have h40 : 40 ≠ n := by omega
    have h41 : 41 ≠ n := by omega
    simp [busyPart, stored, Table.get, h40, h41]
  · intro op h; cases h; exact ⟨fun h => absurd rfl h, rfl, rfl, Nat.le_refl 1, Nat.le_succ 1, rfl, by decide +kernel⟩
theorem witness_invariants_step : step busyPart = .next busyPart := rfl

end Sys2Proof.Tests
end

section
/-! The record checks of Table 2-2: the first failing item of a list, the first failing field, and the range of each field. -/

namespace Sys2Proof.Machine

section
variable {α : Type} {ok : Nat → α → Prop}

@[simp] theorem everyItem_nil : EveryItem ok [] := by simp [EveryItem]

@[simp] theorem not_firstItem_nil (i : Nat) : ¬FirstItem ok [] i := by simp [FirstItem]

/-- A list is as it should be when its head is, and its tail at the places one further on. -/
theorem everyItem_cons {x : α} {l : List α} :
    EveryItem ok (x :: l) ↔ ok 0 x ∧ EveryItem (fun k => ok (k + 1)) l := by
  constructor
  · exact fun h => ⟨h 0 x rfl, fun k y hy => h (k + 1) y hy⟩
  · rintro ⟨h0, h⟩ k y hy
    cases k with
    | zero => cases hy; exact h0
    | succ k => exact h k y hy

theorem firstItem_cons_zero {x : α} {l : List α} : FirstItem ok (x :: l) 0 ↔ ¬ok 0 x := by
  simp [FirstItem]

theorem firstItem_cons_succ {x : α} {l : List α} {i : Nat} :
    FirstItem ok (x :: l) (i + 1) ↔ ok 0 x ∧ FirstItem (fun k => ok (k + 1)) l i := by
  constructor
  · rintro ⟨hi, h⟩
    exact ⟨h 0 x (Nat.succ_pos i) rfl, hi, fun k y hk hy => h (k + 1) y (Nat.succ_lt_succ hk) hy⟩
  · rintro ⟨h0, hi, h⟩
    refine ⟨hi, fun k y hk hy => ?_⟩
    cases k with
    | zero => cases hy; exact h0
    | succ k => exact h k y (Nat.lt_of_succ_lt_succ hk) hy

end

/-! ### The first failing item of a list -/

section
variable {α : Type} {P : α → Prop} [DecidablePred P]

theorem findIdx?_not_eq_none (l : List α) :
    (l.findIdx? fun x => !decide (P x)) = none ↔ EveryItem (fun _ => P) l := by
  induction l with
  | nil => simp
  | cons x l ih => by_cases hx : P x <;> simp [List.findIdx?_cons, everyItem_cons, hx, ih]

theorem findIdx?_not_eq_some (l : List α) (i : Nat) :
    (l.findIdx? fun x => !decide (P x)) = some i ↔ FirstItem (fun _ => P) l i := by
  induction l generalizing i with
  | nil => simp
  | cons x l ih =>
    cases i with
    | zero => by_cases hx : P x <;> simp [List.findIdx?_cons, firstItem_cons_zero, hx]
    | succ i => by_cases hx : P x <;> simp [List.findIdx?_cons, firstItem_cons_succ, hx, ih]

end

/-- The test that `firstBadPair` makes of the pair before the rest of a list is field 7 of Table 2-2 at the list's head. -/
theorem pairOk_zero_iff (classes : Nat) (q : Pair) (rest : List Pair) :
    PairOk classes (rest.length + 1) 0 q ↔
      (decide (q.mark < classes) &&
        (match q.space with
          | some c => decide (c < classes) && !rest.isEmpty
          | none => rest.isEmpty)) = true := by
  cases hs : q.space with
  | none => simp [PairOk, hs]
  | some c => cases rest <;> simp [PairOk, hs]

/-- One step of `firstBadPair`. -/
theorem firstBadPair_cons (classes i : Nat) (q : Pair) (rest : List Pair)
    [Decidable (PairOk classes (rest.length + 1) 0 q)] :
    firstBadPair classes i (q :: rest) =
      if PairOk classes (rest.length + 1) 0 q then firstBadPair classes (i + 1) rest else some i := by
  simp only [pairOk_zero_iff]
  rfl

theorem pairOk_succ (classes length k : Nat) : PairOk classes (length + 1) (k + 1) = PairOk classes length k := by
  simp [PairOk, funext_iff]

theorem firstBadPair_eq_none (classes i : Nat) (l : List Pair) :
    firstBadPair classes i l = none ↔ EveryItem (PairOk classes l.length) l := by
  classical
  induction l generalizing i with
  | nil => simp [firstBadPair]
  | cons q rest ih =>
    rw [firstBadPair_cons, List.length_cons, everyItem_cons]
    simp only [pairOk_succ]
    split
    · rename_i hq; simp [hq, ih]
    · rename_i hq; simp [hq]

/-- The bad pair of a list is reported by its place, counted from where the count began. -/
theorem firstBadPair_eq_some (classes i n : Nat) (l : List Pair) :
    firstBadPair classes i l = some n ↔ ∃ k, n = i + k ∧ FirstItem (PairOk classes l.length) l k := by
  classical
  induction l generalizing i with
  | nil => simp [firstBadPair]
  | cons q rest ih =>
    by_cases hq : PairOk classes (rest.length + 1) 0 q
    · rw [firstBadPair_cons, if_pos hq, ih]
      constructor
      · rintro ⟨k, rfl, hk⟩
        exact ⟨k + 1, by omega, firstItem_cons_succ.2 ⟨hq, by simpa only [List.length_cons, pairOk_succ] using hk⟩⟩
      · rintro ⟨k, rfl, hk⟩
        cases k with
        | zero => exact absurd hq (firstItem_cons_zero.1 hk)
        | succ k => exact ⟨k, by omega, by simpa only [List.length_cons, pairOk_succ] using (firstItem_cons_succ.1 hk).2⟩
    · rw [firstBadPair_cons, if_neg hq]
      constructor
      · rintro ⟨⟩
        exact ⟨0, rfl, firstItem_cons_zero.2 hq⟩
      · rintro ⟨k, rfl, hk⟩
        cases k with
        | zero => rfl
        | succ k => exact absurd (firstItem_cons_succ.1 hk).1 hq

/-! ### The first failing field of a record -/

/-- The first failing item of one field of Table 2-2; none where the field is within its range. -/
def Record.failingItem (r : Record) (field : Nat) : Option Nat :=
  match field with
  | 1 => if carrierOk r.carrier then none else some 0
  | 2 => if r.duty == 25 || r.duty == 33 || r.duty == 50 then none else some 0
  | 3 => if 1 ≤ r.classes.length ∧ r.classes.length ≤ 8 then none else some 0
  | 4 => r.classes.findIdx? fun d => !decide (10 ≤ d ∧ d ≤ 65000)
  | 5 => if 1 ≤ r.body.length ∧ r.body.length ≤ 192 then none else some 0
  | 6 => if r.later.length ≤ 32 then none else some 0
  | 7 => firstBadPair r.classes.length 0 r.body
  | 8 => firstBadPair r.classes.length 0 r.later
  | 9 => if r.interval ≤ 1000 then none else some 0
  | 10 => if 1 ≤ r.minFrames ∧ r.minFrames ≤ 15 then none else some 0
  | 11 => if r.label.length ≤ 16 then none else some 0
  | 12 => r.label.findIdx? fun b => !decide (0x20 ≤ b.toNat ∧ b.toNat ≤ 0x7E)
  | _ => none

/-- The field numbers of Table 2-2 in order. -/
def fieldNumbers : List Nat := List.range' 1 12

theorem mem_fieldNumbers {field : Nat} : field ∈ fieldNumbers ↔ 1 ≤ field ∧ field ≤ 12 := by
  rw [fieldNumbers, List.mem_range'_1]; omega

section
variable {P : Prop} [Decidable P]

/-- A field that is one value fails with item 0. -/
theorem failIf_eq_none : (if P then none else some 0 : Option Nat) = none ↔ P := by
  by_cases h : P <;> simp [h]

theorem failIf_eq_some {item : Nat} : (if P then none else some 0) = some item ↔ ¬P ∧ item = 0 := by
  by_cases h : P <;> simp [h, eq_comm]

end

theorem carrierOk_iff (c : Nat) : carrierOk c = true ↔ c = 0 ∨ (200 ≤ c ∧ c ≤ 600) ∨ (3500 ≤ c ∧ c ≤ 5000) := by
  simp [carrierOk]

theorem Record.failingItem_eq_none (r : Record) (field : Nat) : r.failingItem field = none ↔ r.FieldOk field := by
  unfold Record.failingItem Record.FieldOk
  split
  case h_1 => rw [failIf_eq_none]; exact carrierOk_iff r.carrier
  case h_2 => rw [failIf_eq_none]; simp [or_assoc]
  case h_4 => exact findIdx?_not_eq_none r.classes
  case h_7 => exact firstBadPair_eq_none _ 0 r.body
  case h_8 => exact firstBadPair_eq_none _ 0 r.later
  case h_12 => exact findIdx?_not_eq_none r.label
  case h_13 => simp
  all_goals exact failIf_eq_none

theorem firstBadPair_zero_eq_some (classes n : Nat) (l : List Pair) :
    firstBadPair classes 0 l = some n ↔ FirstItem (PairOk classes l.length) l n := by
  simp [firstBadPair_eq_some]

theorem Record.failingItem_eq_some (r : Record) (field item : Nat) :
    r.failingItem field = some item ↔ r.FieldFails field item := by
  unfold Record.failingItem Record.FieldFails
  split
  case h_1 => rw [failIf_eq_some, carrierOk_iff]; rfl
  case h_2 => rw [failIf_eq_some]; simp [Record.FieldOk, and_assoc]
  case h_4 => exact findIdx?_not_eq_some r.classes item
  case h_7 => exact firstBadPair_zero_eq_some _ item r.body
  case h_8 => exact firstBadPair_zero_eq_some _ item r.later
  case h_12 => exact findIdx?_not_eq_some r.label item
  case h_13 => simp [Record.FieldOk]
  all_goals exact failIf_eq_some

/-! The record checks are a chain of tests, one for each field; a search through the fields is the same chain of `or`s. -/

theorem findSome?_cons_eq_or {α β : Type} (f : α → Option β) (a : α) (l : List α) :
    (a :: l).findSome? f = (f a).or (l.findSome? f) := by
  rw [List.findSome?_cons]
  cases f a <;> rfl

section
variable {field : Nat} {k k' : Option (Nat × Nat)}

theorem check_eq_or {b : Bool} {P : Prop} [Decidable P] (hb : b = true ↔ P) (hk : k = k') :
    (if !b then some (field, 0) else k) = ((if P then none else some 0).map fun item => (field, item)).or k' := by
  by_cases h : P <;> simp_all

theorem itemCheck_eq_or {o : Option Nat} (hk : k = k') :
    (match o with
      | some item => some (field, item)
      | none => k) = (o.map fun item => (field, item)).or k' := by
  cases o <;> simp [hk]

end

/-- The record checks look through the fields in the order of their numbers. -/
theorem recordFault_eq_findSome? (r : Record) :
    recordFault r = fieldNumbers.findSome? fun field => (r.failingItem field).map fun item => (field, item) := by
  simp only [fieldNumbers, List.range', findSome?_cons_eq_or, List.findSome?_nil]
  exact check_eq_or Iff.rfl <| check_eq_or Iff.rfl <| check_eq_or decide_eq_true_iff <| itemCheck_eq_or <|
    check_eq_or decide_eq_true_iff <| check_eq_or decide_eq_true_iff <| itemCheck_eq_or <| itemCheck_eq_or <|
    check_eq_or decide_eq_true_iff <| check_eq_or decide_eq_true_iff <| check_eq_or decide_eq_true_iff <|
    itemCheck_eq_or rfl

/-- What a search through a rising list finds: the first member for which the function has something. -/
theorem findSome?_eq_some_iff_of_pairwise {β : Type} {f : Nat → Option β} {l : List Nat} (h : l.Pairwise (· < ·)) (n : Nat)
    (x : β) :
    (l.findSome? fun m => (f m).map fun y => (m, y)) = some (n, x) ↔
      n ∈ l ∧ f n = some x ∧ ∀ m ∈ l, m < n → f m = none := by
  induction l with
  | nil => simp
  | cons a l ih =>
    obtain ⟨ha, hl⟩ := List.pairwise_cons.1 h
    rw [findSome?_cons_eq_or]
    cases hf : f a with
    | none =>
      have hn : f n = some x → n ≠ a := by rintro hx rfl; simp [hf] at hx
      simp only [hf, Option.map_none, Option.none_or, ih hl, List.mem_cons, forall_eq_or_imp, implies_true, true_and]
      tauto
    | some y =>
      simp only [Option.map_some, Option.some_or, Option.some.injEq, Prod.mk.injEq]
      constructor
      · rintro ⟨rfl, rfl⟩
        refine ⟨List.mem_cons_self, hf, fun m hm hlt => ?_⟩
        rcases List.mem_cons.1 hm with rfl | hm
        · omega
        · exact absurd (ha m hm) (by omega)
      · rintro ⟨hn, hx, hb⟩
        rcases List.mem_cons.1 hn with rfl | hn
        · exact ⟨rfl, by simpa [hf] using hx⟩
        · simpa [hf] using hb a List.mem_cons_self (ha n hn)

theorem recordFault_eq_none_iff (r : Record) :
    recordFault r = none ↔ ∀ field, 1 ≤ field → field ≤ 12 → r.FieldOk field := by
  simp [recordFault_eq_findSome?, mem_fieldNumbers, Record.failingItem_eq_none]

theorem recordFault_eq_some_iff (r : Record) (field item : Nat) :
    recordFault r = some (field, item) ↔
      1 ≤ field ∧ field ≤ 12 ∧ r.FieldFails field item ∧ ∀ g, 1 ≤ g → g < field → r.FieldOk g := by
  have hrise : fieldNumbers.Pairwise (· < ·) := List.pairwise_lt_range'
  simp only [recordFault_eq_findSome?, findSome?_eq_some_iff_of_pairwise hrise, mem_fieldNumbers,
    Record.failingItem_eq_none, Record.failingItem_eq_some, and_assoc]
  refine and_congr_right fun _ => and_congr_right fun hle => and_congr_right fun _ => forall_congr' fun g => ?_
  exact ⟨fun h h1 hlt => h ⟨h1, by omega⟩ hlt, fun h h1 hlt => h h1.1 hlt⟩

/-- Settles O20: the record checks are the search for the first failing field. -/
theorem recordChecksInFieldOrder : Obligations.recordChecksInFieldOrder :=
  fun r => ⟨recordFault_eq_none_iff r, recordFault_eq_some_iff r⟩

end Sys2Proof.Machine
end

section
/-! The wire form of a code record (R6, R177): its bytes in their places, and the record read back from them. -/

namespace Sys2Proof.Machine

/-! ### Fields -/

theorem byte_toNat {n : Nat} (h : n < 256) : (byte n).toNat = n := by
  simp [byte, Nat.mod_eq_of_lt h]

theorem byteAt_append_left {p q : List Byte} {i : Nat} (h : i < p.length) : byteAt (p ++ q) i = byteAt p i := by
  simp [byteAt, List.getElem?_append_left h]

theorem byteAt_append_right (p q : List Byte) (i : Nat) : byteAt (p ++ q) (p.length + i) = byteAt q i := by
  simp [byteAt, List.getElem?_append_right]

theorem wordAt_append_right (p q : List Byte) (i : Nat) : wordAt (p ++ q) (p.length + i) = wordAt q i := by
  simp only [wordAt, Nat.add_assoc, byteAt_append_right]

/-- The two bytes of a word hold its value between them. -/
theorem byte_toNat_add_byte_toNat {n : Nat} (h : n < 65536) : (byte n).toNat + 256 * (byte (n / 256)).toNat = n := by
  simp only [byte, BitVec.toNat_ofNat]
  omega

theorem wordAt_word_append {n : Nat} (h : n < 65536) (q : List Byte) : wordAt (word n ++ q) 0 = n :=
  byte_toNat_add_byte_toNat h

@[simp] theorem length_word (n : Nat) : (word n).length = 2 := rfl

@[simp] theorem length_flatMap_word (l : List Nat) : (l.flatMap word).length = 2 * l.length := by
  induction l with
  | nil => rfl
  | cons n l ih => rw [List.flatMap_cons, List.length_append, length_word, ih, List.length_cons]; omega

/-- The words of a list are read back one after another. -/
theorem map_wordAt_flatMap_word {l : List Nat} (h : ∀ n ∈ l, n < 65536) (q : List Byte) :
    (List.range l.length).map (fun i => wordAt (l.flatMap word ++ q) (2 * i)) = l := by
  induction l with
  | nil => rfl
  | cons n l ih =>
    obtain ⟨hn, hl⟩ := List.forall_mem_cons.1 h
    have hnext (i : Nat) : wordAt ((n :: l).flatMap word ++ q) (2 * (i + 1)) = wordAt (l.flatMap word ++ q) (2 * i) := by
      rw [List.flatMap_cons, List.append_assoc, show 2 * (i + 1) = (word n).length + 2 * i by rw [length_word]; omega,
        wordAt_append_right]
    rw [List.length_cons, List.range_succ_eq_map, List.map_cons, List.map_map]
    simp only [Function.comp_def, Nat.succ_eq_add_one, hnext, ih hl]
    rw [List.flatMap_cons, List.append_assoc, Nat.mul_zero, wordAt_word_append hn]

/-! ### Pairs -/

/-- The two classes of a pair fit the two halves of its byte (R177). -/
def Pair.FitsByte (q : Pair) : Prop := q.mark < 16 ∧ ∀ c, q.space = some c → c < 15

theorem Pair.toNat_toByte {q : Pair} (h : q.FitsByte) : q.toByte.toNat = 16 * q.mark + q.space.getD 15 := by
  obtain ⟨hm, hs⟩ := h
  refine byte_toNat ?_
  cases hq : q.space with
  | none => simp only [Option.getD_none]; omega
  | some c => have hc := hs c hq; simp only [Option.getD_some]; omega

theorem Pair.ofByte_toByte {q : Pair} (h : q.FitsByte) : Pair.ofByte q.toByte = q := by
  rw [Pair.ofByte, Pair.toNat_toByte h]
  obtain ⟨mark, space⟩ := q
  obtain ⟨-, hs⟩ := h
  cases space with
  | none => simp only [Option.getD_none, Pair.mk.injEq, ite_eq_left_iff, reduceCtorEq, imp_false]; omega
  | some c =>
    have hc := hs c rfl
    simp only [Option.getD_some, Pair.mk.injEq]
    rw [if_neg (by omega), Option.some.injEq]
    omega

theorem map_ofByte_map_toByte {l : List Pair} (h : ∀ q ∈ l, q.FitsByte) : (l.map Pair.toByte).map Pair.ofByte = l := by
  rw [List.map_map]
  exact (List.map_congr_left fun q hq => Pair.ofByte_toByte (h q hq)).trans (List.map_id l)

/-! ### The wire form -/

/-- The ten bytes of Table 11-7 that stand before the class table. -/
def Record.wireHead (r : Record) : List Byte :=
  word r.carrier ++ [byte r.duty, byte r.classes.length, byte r.body.length, byte r.later.length,
    byte r.label.length] ++ word r.interval ++ [byte r.minFrames]

@[simp] theorem Record.length_wireHead (r : Record) : r.wireHead.length = 10 := rfl

/-- What stands after the class table: both pair lists and the label. -/
def Record.wireTail (r : Record) : List Byte := r.body.map Pair.toByte ++ (r.later.map Pair.toByte ++ r.label)

theorem Record.wire_eq (r : Record) : r.wire = r.wireHead ++ (r.classes.flatMap word ++ r.wireTail) := by
  simp [Record.wire, Record.wireHead, Record.wireTail]

theorem Record.length_wire (r : Record) :
    r.wire.length = 10 + 2 * r.classes.length + r.label.length + r.body.length + r.later.length := by
  simp only [Record.wire_eq, Record.wireTail, List.length_append, List.length_map, Record.length_wireHead,
    length_flatMap_word]
  omega

theorem Record.wireSize_eq_length_wire (r : Record) : r.wireSize = r.wire.length := by
  rw [Record.length_wire]; rfl

/-- Every field of a record fits the bytes that the wire form has for it. -/
structure Record.FitsWire (r : Record) : Prop where
  carrier : r.carrier < 65536
  duty : r.duty < 256
  classCount : r.classes.length < 256
  classValues : ∀ d ∈ r.classes, d < 65536
  bodyCount : r.body.length < 256
  laterCount : r.later.length < 256
  bodyPairs : ∀ q ∈ r.body, q.FitsByte
  laterPairs : ∀ q ∈ r.later, q.FitsByte
  interval : r.interval < 65536
  minFrames : r.minFrames < 256
  labelCount : r.label.length < 256

theorem Record.byteAt_wire (r : Record) {i : Nat} (h : i < 10) : byteAt r.wire i = byteAt r.wireHead i := by
  rw [Record.wire_eq, byteAt_append_left (by simpa using h)]

theorem Record.wordAt_wire (r : Record) {i : Nat} (h : i + 1 < 10) : wordAt r.wire i = wordAt r.wireHead i := by
  rw [wordAt, r.byteAt_wire h, r.byteAt_wire (by omega : i < 10), wordAt]

theorem Record.drop_wire (r : Record) : r.wire.drop (10 + 2 * r.classes.length) = r.wireTail := by
  rw [Record.wire_eq, ← List.append_assoc]
  exact List.drop_left' (by rw [List.length_append, Record.length_wireHead, length_flatMap_word])

section
variable {r : Record} (h : r.FitsWire)
include h

theorem Record.FitsWire.read_counts :
    (byteAt r.wire 3).toNat = r.classes.length ∧ (byteAt r.wire 4).toNat = r.body.length ∧
      (byteAt r.wire 5).toNat = r.later.length ∧ (byteAt r.wire 6).toNat = r.label.length := by
  rw [r.byteAt_wire (by decide : 3 < 10), r.byteAt_wire (by decide : 4 < 10), r.byteAt_wire (by decide : 5 < 10),
    r.byteAt_wire (by decide : 6 < 10)]
  exact ⟨byte_toNat h.classCount, byte_toNat h.bodyCount, byte_toNat h.laterCount, byte_toNat h.labelCount⟩

theorem Record.FitsWire.read_scalars :
    wordAt r.wire 0 = r.carrier ∧ (byteAt r.wire 2).toNat = r.duty ∧ wordAt r.wire 7 = r.interval ∧
      (byteAt r.wire 9).toNat = r.minFrames := by
  rw [r.wordAt_wire (by decide : 0 + 1 < 10), r.byteAt_wire (by decide : 2 < 10), r.wordAt_wire (by decide : 7 + 1 < 10),
    r.byteAt_wire (by decide : 9 < 10)]
  exact ⟨byte_toNat_add_byte_toNat h.carrier, byte_toNat h.duty, byte_toNat_add_byte_toNat h.interval,
    byte_toNat h.minFrames⟩

theorem Record.FitsWire.read_classes :
    (List.range r.classes.length).map (fun i => wordAt r.wire (10 + 2 * i)) = r.classes := by
  rw [Record.wire_eq]
  simp only [← r.length_wireHead, wordAt_append_right]
  exact map_wordAt_flatMap_word h.classValues r.wireTail

theorem Record.FitsWire.read_tail :
    (r.wireTail.take r.body.length).map Pair.ofByte = r.body ∧
      ((r.wireTail.drop r.body.length).take r.later.length).map Pair.ofByte = r.later ∧
      (r.wireTail.drop (r.body.length + r.later.length)).take r.label.length = r.label := by
  have hbody : r.wireTail.drop r.body.length = r.later.map Pair.toByte ++ r.label := List.drop_left' (by simp)
  refine ⟨?_, ?_, ?_⟩
  · rw [Record.wireTail, List.take_left' (by simp), map_ofByte_map_toByte h.bodyPairs]
  · rw [hbody, List.take_left' (by simp), map_ofByte_map_toByte h.laterPairs]
  · rw [← List.drop_drop, hbody, List.drop_left' (by simp), List.take_length]

/-- The wire form of a record whose fields fit it is read back as that record. -/
theorem Record.FitsWire.ofWire_wire : Record.ofWire r.wire = r := by
  obtain ⟨hclasses, hbody, hlater, hlabel⟩ := h.read_counts
  obtain ⟨hcarrier, hduty, hinterval, hmin⟩ := h.read_scalars
  obtain ⟨tbody, tlater, tlabel⟩ := h.read_tail
  simp only [Record.ofWire, hclasses, hbody, hlater, hlabel, hcarrier, hduty, hinterval, hmin, h.read_classes,
    Record.drop_wire, tbody, tlater, tlabel]

end

/-! ### Valid records -/

/-- The pairs of a list that passes field 7 or 8 fit their bytes, the class count being 8 at most. -/
theorem fitsByte_of_pairOk {classes length : Nat} {l : List Pair} (hc : classes ≤ 8)
    (h : EveryItem (PairOk classes length) l) : ∀ q ∈ l, q.FitsByte := by
  intro q hq
  obtain ⟨k, hk⟩ := List.mem_iff_getElem?.1 hq
  obtain ⟨hm, hs, -⟩ := h k q hk
  exact ⟨by omega, fun c hsc => by have := hs c hsc; omega⟩

/-- The counts of a valid record (Table 2-2, fields 3, 5, 6 and 11). -/
structure Record.CountsOk (r : Record) : Prop where
  classes : 1 ≤ r.classes.length ∧ r.classes.length ≤ 8
  body : 1 ≤ r.body.length ∧ r.body.length ≤ 192
  later : r.later.length ≤ 32
  label : r.label.length ≤ 16

theorem Record.countsOk_of_valid {r : Record} (h : recordFault r = none) : r.CountsOk := by
  have hf := (recordFault_eq_none_iff r).1 h
  exact ⟨hf 3 (by decide) (by decide), hf 5 (by decide) (by decide), hf 6 (by decide) (by decide),
    hf 11 (by decide) (by decide)⟩

theorem Record.fitsWire_of_valid {r : Record} (h : recordFault r = none) : r.FitsWire := by
  have hf := (recordFault_eq_none_iff r).1 h
  obtain ⟨⟨-, hclasses⟩, ⟨-, hbody⟩, hlater, hlabel⟩ := Record.countsOk_of_valid h
  have h1 : r.FieldOk 1 := hf 1 (by decide) (by decide)
  have h2 : r.FieldOk 2 := hf 2 (by decide) (by decide)
  have h4 : r.FieldOk 4 := hf 4 (by decide) (by decide)
  have h9 : r.FieldOk 9 := hf 9 (by decide) (by decide)
  have h10 : r.FieldOk 10 := hf 10 (by decide) (by decide)
  simp only [Record.FieldOk] at h1 h2 h4 h9 h10
  exact
    { carrier := by omega
      duty := by omega
      classCount := by omega
      classValues := fun d hd => by
        obtain ⟨k, hk⟩ := List.mem_iff_getElem?.1 hd
        have hle := (h4 k d hk).2
        omega
      bodyCount := by omega
      laterCount := by omega
      bodyPairs := fitsByte_of_pairOk hclasses (hf 7 (by decide) (by decide))
      laterPairs := fitsByte_of_pairOk hclasses (hf 8 (by decide) (by decide))
      interval := by omega
      minFrames := by omega
      labelCount := by omega }

/-- R6: a valid record takes 13 to 266 bytes. -/
theorem Record.length_wire_bounds {r : Record} (h : recordFault r = none) : 13 ≤ r.wire.length ∧ r.wire.length ≤ 266 := by
  obtain ⟨hclasses, hbody, hlater, hlabel⟩ := Record.countsOk_of_valid h
  rw [Record.length_wire]
  omega

/-! ### The STORE payload -/

theorem byteAt_inline_payload (slot : Byte) (w : List Byte) (i : Nat) :
    byteAt ([slot, 0x00, 0x00, 0x00] ++ w) (4 + i) = byteAt w i :=
  byteAt_append_right [slot, 0x00, 0x00, 0x00] w i

/-- R174: the counts in the payload of an inline STORE agree with its length. -/
theorem payloadAgrees_inline {r : Record} (h : r.FitsWire) (slot : Byte) :
    payloadAgrees .store ([slot, 0x00, 0x00, 0x00] ++ r.wire) = true := by
  obtain ⟨hclasses, hbody, hlater, hlabel⟩ := h.read_counts
  have hp := byteAt_inline_payload slot r.wire
  have hinline : byteAt ([slot, 0x00, 0x00, 0x00] ++ r.wire) 2 = 0x00 := rfl
  have hlen : ([slot, 0x00, 0x00, 0x00] ++ r.wire).length = 4 + r.wireSize := by
    rw [List.length_append, r.wireSize_eq_length_wire]; rfl
  rw [payloadAgrees, if_pos hinline, hlen, hp 3, hp 4, hp 5, hp 6, hclasses, hbody, hlater, hlabel]
  have hmin : 10 ≤ r.wireSize := by rw [Record.wireSize, wireSizeOf]; omega
  rw [← Record.wireSize, beq_self_eq_true, Bool.and_true]
  exact decide_eq_true (by omega)

theorem SlotFlags.ofByte_zero : SlotFlags.ofByte 0x00 = some SlotFlags.clear := by decide

/-- A valid record sent inline is the one that the STORE names. -/
theorem storeSource_inline {r : Record} (h : recordFault r = none) {slot : Byte} (hslot : slot.toNat < 128) (s : State) :
    storeSource s ([slot, 0x00, 0x00, 0x00] ++ r.wire) = .ok (SlotFlags.clear, r) := by
  have hread : Record.ofWire (([slot, 0x00, 0x00, 0x00] ++ r.wire).drop 4) = r :=
    (Record.fitsWire_of_valid h).ofWire_wire
  have hflags : SlotFlags.ofByte (byteAt ([slot, 0x00, 0x00, 0x00] ++ r.wire) 1) = some SlotFlags.clear :=
    SlotFlags.ofByte_zero
  have hinline : byteAt ([slot, 0x00, 0x00, 0x00] ++ r.wire) 2 = 0x00 := rfl
  have hargs : (byteAt ([slot, 0x00, 0x00, 0x00] ++ r.wire) 0).toNat < slotCount ∧
      overridesOk ([slot, 0x00, 0x00, 0x00] ++ r.wire) = true := ⟨hslot, rfl⟩
  simp only [storeSource, hflags, hargs, hinline, if_true, and_self, hread, h]

/-- Settles O18: the fields of a valid record fit its wire form, and each is read where it was written. -/
theorem recordWireFormReadsBack : Obligations.recordWireFormReadsBack := by
  intro r slot s h
  have hfits := Record.fitsWire_of_valid h
  obtain ⟨hmin, hmax⟩ := Record.length_wire_bounds h
  have hsize := r.wireSize_eq_length_wire
  refine ⟨r.length_wire, hmin, hmax, hsize, ?_, ?_, hfits.ofWire_wire, payloadAgrees_inline hfits slot,
    fun hslot => storeSource_inline h hslot s⟩
  all_goals
    rw [hsize, storedSize]
    omega

end Sys2Proof.Machine
end

section
/-! Standby entry at the end of a step (R185): what keeps it from being due. -/

namespace Sys2Proof.Machine

/-- The blocks of which standby entry asks nothing (R185). -/
def Blocks.outsideStandby : Blocks :=
  { now := true, draws := true, pins := true, cap := true, routes := true, channels := true, pending := true }

theorem settleStandby_of_settled {s : State} (h : StandbySettled s) : settleStandby s = s := by
  unfold settleStandby
  split
  · rename_i hc; exact absurd hc h
  · rfl

/-- Standby entry is due by the operating state and the five readiness conditions alone. -/
theorem StandbySettled.of_changes {s t : State} (h : StandbySettled s) (hc : Changes Blocks.outsideStandby s t) :
    StandbySettled t := by
  unfold StandbySettled readyForStandby linkAtRest noLiveJob noLearnSession noLibraryOperation pressIdle at *
  rwa [hc.opc rfl, hc.link rfl, hc.ems rfl, hc.lrn rfl, hc.lib rfl, hc.rcg rfl]

/-- A command whose effect reaches no block that standby entry asks of ends without it. -/
theorem event_of_settled {dt : Nat} {f : State → State} {s t : State} (h : StandbySettled (advance dt s))
    (hf : f (advance dt s) = t) (hc : Changes Blocks.outsideStandby (advance dt s) t) : event dt f s = .next t := by
  rw [event, hf, settleStandby_of_settled (h.of_changes hc)]

end Sys2Proof.Machine
end

section
/-! Carrier pulses (R8, R127) and mask windows (R141): the count of a mark, the edges of its train, the close of a window. -/

namespace Sys2Proof.Machine

/-! ### The count and the length of a train -/

theorem nearestPulses_bounds (d c : Nat) :
    10000 * nearestPulses d c ≤ d * c + 5000 ∧ d * c < 10000 * nearestPulses d c + 5000 := by
  unfold nearestPulses; omega

theorem one_le_pulseCount (d c : Nat) : 1 ≤ pulseCount d c := Nat.le_max_left ..

theorem pulseCount_of_nearest_zero {d c : Nat} (h : nearestPulses d c = 0) : pulseCount d c = 1 := by
  rw [pulseCount, h]; rfl

theorem pulseCount_of_nearest_pos {d c : Nat} (h : nearestPulses d c ≠ 0) : pulseCount d c = nearestPulses d c :=
  Nat.max_eq_right (Nat.one_le_iff_ne_zero.2 h)

theorem ceilDiv_le {a b n : Nat} (hb : 0 < b) (h : a ≤ n * b) : ceilDiv a b ≤ n := by
  rw [ceilDiv, ← Nat.lt_succ_iff, Nat.div_lt_iff_lt_mul hb, Nat.succ_mul]
  omega

theorem ceilDiv_mul_lt {a b : Nat} (hb : 0 < b) : ceilDiv a b * b < a + b :=
  lt_of_le_of_lt (Nat.div_mul_le_self ..) (by omega)

/-- A train whose count was not raised ends with its mark at the latest: N − 1 periods and half of one are at most the
duration (R8). -/
theorem driveLength_le_of_nearest_pos {d c duty : Nat} (hc : 0 < c) (hduty : duty ≤ 50) (h : nearestPulses d c ≠ 0) :
    driveLength d c duty ≤ 40 * d := by
  have hb := (nearestPulses_bounds d c).1
  rw [driveLength, if_neg hc.ne', pulseCount_of_nearest_pos h]
  refine ceilDiv_le hc ?_
  rw [Nat.mul_assoc 40]
  omega

theorem driveLength_mul_lt_of_nearest_zero {d c duty : Nat} (hc : 0 < c) (h : nearestPulses d c = 0) :
    driveLength d c duty * c < duty * 4000 + c := by
  rw [driveLength, if_neg hc.ne', pulseCount_of_nearest_zero h]
  simpa using ceilDiv_mul_lt (a := duty * 4000) hc

/-! ### The edges of a train -/

theorem Drive.edgeReached_end {d : Drive} {k now : Nat} (hc : d.carrier ≠ 0) (he : d.edge = 2 * k + 1) :
    d.edgeReached now = decide ((100 * k + d.duty) * 4000 ≤ d.carrier * (now - d.start)) := by
  have hodd : d.edge % 2 = 1 := by omega
  have hk : d.edge / 2 = k := by omega
  simp [Drive.edgeReached, hc, hodd, hk, Nat.mul_comm k]

theorem Drive.edgeReached_start {d : Drive} {k now : Nat} (hc : d.carrier ≠ 0) (he : d.edge = 2 * k) :
    d.edgeReached now = decide (k * 400000 ≤ d.carrier * (now - d.start)) := by
  have heven : d.edge % 2 = 0 := by omega
  have hk : d.edge / 2 = k := by omega
  simp [Drive.edgeReached, hc, heven, hk]

theorem Channel.takeEdge_last {c : Channel} {d : Drive} {k : Nat} (he : d.edge = 2 * k + 1) (hk : k + 1 = d.pulses) :
    c.takeEdge d = { c with drive := none, out := false } := if_pos (by omega)

theorem Channel.takeEdge_end {c : Channel} {d : Drive} {k : Nat} (he : d.edge = 2 * k + 1) (hk : k + 1 < d.pulses) :
    c.takeEdge d = { c with drive := some { d with edge := d.edge + 1 }, out := false } := by
  have hodd : d.edge % 2 ≠ 0 := by omega
  rw [Channel.takeEdge, if_neg (by omega), decide_eq_false hodd]

theorem Channel.takeEdge_start {c : Channel} {d : Drive} {k : Nat} (he : d.edge = 2 * k) :
    c.takeEdge d = { c with drive := some { d with edge := d.edge + 1 }, out := true } := by
  have heven : d.edge % 2 = 0 := by omega
  rw [Channel.takeEdge, if_neg (by omega), decide_eq_true heven]

theorem pulseEdgeEvent_of_drive {e : Emitter} {u : State} {d : Drive} (h : (u.channels.get e).drive = some d) :
    pulseEdgeEvent e u = if d.edgeReached u.now then updateChannel u e fun c => c.takeEdge d else u := by
  rw [pulseEdgeEvent, h]

theorem exec_carrierPulseEdge {dt : Nat} {e : Emitter} {s : State} {d : Drive} (h : StandbySettled (advance dt s))
    (hd : ((advance dt s).channels.get e).drive = some d) :
    exec (.carrierPulseEdge dt e) s = .next (if d.edgeReached (advance dt s).now then
      updateChannel (advance dt s) e fun c => c.takeEdge d else advance dt s) :=
  event_of_settled h (pulseEdgeEvent_of_drive hd) (Changes.ite (updateChannel_changes rfl _ e _) (Changes.refl _))

/-! ### The close of a mask window -/

theorem mem_emitters (e : Emitter) : e ∈ emitters := by cases e <;> decide

theorem maskingPresent_of_window {s : State} {e : Emitter} (h : (s.channels.get e).window.isPresent = true) :
    maskingPresent s = true := List.any_eq_true.2 ⟨e, mem_emitters e, h⟩

/-- Where the masking condition is present before a change of the channels, it can only stay or end by it (R141). -/
theorem withMasking_of_present {f : State → State} {s : State} (h : maskingPresent s = true) :
    withMasking f s = if maskingPresent (f s) then f s else maskingEnds (f s) := by
  cases ht : maskingPresent (f s) <;> simp [withMasking, h, ht]

theorem maskWindowCloseEvent_of_closing {e : Emitter} {t : Nat} {u : State} (h : (u.channels.get e).window = .closing t) :
    maskWindowCloseEvent e u =
      if t ≤ u.now then
        withMasking (fun s => updateChannel s e fun c => { c with window := .closed }) u
      else u := by
  rw [maskWindowCloseEvent, h]

theorem exec_maskWindowClose_due {dt t : Nat} {e : Emitter} {s : State} (h : StandbySettled (advance dt s))
    (hw : ((advance dt s).channels.get e).window = .closing t) (ht : t ≤ (advance dt s).now) :
    let v := updateChannel (advance dt s) e fun c => { c with window := .closed }
    exec (.maskWindowClose dt e) s = .next (if maskingPresent v then v else maskingEnds v) := by
  intro v
  have hp : maskingPresent (advance dt s) = true := maskingPresent_of_window (e := e) (by rw [hw]; rfl)
  have hv : Changes Blocks.outsideStandby (advance dt s) v := updateChannel_changes rfl _ e _
  refine event_of_settled h ?_ (Changes.ite hv (hv.trans (maskingEnds_changes rfl v)))
  rw [maskWindowCloseEvent_of_closing hw, if_pos ht, withMasking_of_present hp]

theorem exec_maskWindowClose_early {dt t : Nat} {e : Emitter} {s : State} (h : StandbySettled (advance dt s))
    (hw : ((advance dt s).channels.get e).window = .closing t) (ht : (advance dt s).now < t) :
    exec (.maskWindowClose dt e) s = .next (advance dt s) :=
  event_of_settled h (by rw [maskWindowCloseEvent_of_closing hw, if_neg (by omega)]) (Changes.refl _)

/-- Settles O51: the edges and the window by their events, the bounds by those of the nearest count. -/
theorem pulsesFitTheirMark : Obligations.pulsesFitTheirMark := by
  refine ⟨?_, ?_, ?_⟩
  · intro dt k e d s u c became hs hd hc
    rw [exec_carrierPulseEdge hs hd]
    refine ⟨fun he hk ht => ?_, fun he hk ht => ?_, fun he ht => ?_, fun he ht => ?_⟩
    · rw [Drive.edgeReached_end hc he, if_pos (decide_eq_true ht), updateChannel, Channel.takeEdge_end he hk]
      rfl
    · rw [Drive.edgeReached_end hc he, if_pos (decide_eq_true ht), updateChannel, Channel.takeEdge_last he hk]
      rfl
    · rw [Drive.edgeReached_start hc he, if_pos (decide_eq_true ht), updateChannel, Channel.takeEdge_start he]
      rfl
    · rw [Drive.edgeReached_start hc he, decide_eq_false (not_le.2 ht)]
      rfl
  · intro dt t e s u v hs hw
    exact ⟨exec_maskWindowClose_due hs hw, exec_maskWindowClose_early hs hw⟩
  · intro d c duty hc hduty hd
    obtain ⟨hle, hlt⟩ := nearestPulses_bounds d c
    have hN := one_le_pulseCount d c
    have hcount : pulseCount d c = max 1 (nearestPulses d c) := rfl
    refine ⟨?_, ?_, hN, fun h _ => driveLength_le_of_nearest_pos hc hduty h, driveLength_mul_lt_of_nearest_zero hc⟩
    · rw [Nat.mul_assoc]; omega
    · rw [Nat.mul_assoc]; omega

end Sys2Proof.Machine
end

section
/-! The job table: what a search for a live job finds after each operation of the scheduler (R110, R113). -/

namespace Sys2Proof.Machine

theorem id_of_findJob {s : State} {id : Nat} {j : Job} (h : findJob s id = some j) : j.id = id := by
  simpa using List.find?_some h

/-- A live job is looked for in the job table alone. -/
theorem findJob_congr {s t : State} (h : t.ems.jobs = s.ems.jobs) (id : Nat) : findJob t id = findJob s id := by
  rw [findJob, h, findJob]

section
variable {f : Job → Job} (hf : ∀ j, (f j).id = j.id)
include hf

theorem findJob_updateJob (s : State) (id k : Nat) :
    findJob (updateJob s id f) k = (findJob s k).map fun j => if j.id = id then f j else j := by
  have hid (j : Job) : (if j.id = id then f j else j).id = j.id := by split <;> simp [hf]
  simp only [findJob, updateJob, State.withEms_ems, updateJobIn, List.find?_map, Function.comp_def, hid]

theorem findJob_updateJob_same {s : State} {id : Nat} {j : Job} (h : findJob s id = some j) :
    findJob (updateJob s id f) id = some (f j) := by
  simp [findJob_updateJob hf, h, id_of_findJob h]

theorem findJob_updateJob_of_ne (s : State) {id k : Nat} (hk : k ≠ id) : findJob (updateJob s id f) k = findJob s k := by
  rw [findJob_updateJob hf]
  cases h : findJob s k with
  | none => rfl
  | some j => simp [id_of_findJob h, hk]

/-- Two changes of one job are one change. -/
theorem updateJob_updateJob (s : State) (id : Nat) (g : Job → Job) :
    updateJob (updateJob s id f) id g = updateJob s id (g ∘ f) := by
  have hjobs : updateJobIn (updateJobIn s.ems.jobs id f) id g = updateJobIn s.ems.jobs id (g ∘ f) := by
    simp only [updateJobIn, List.map_map]
    refine List.map_congr_left fun j _ => ?_
    by_cases h : j.id = id <;> simp [h, hf]
  simp only [updateJob, State.withEms_ems, State.withEms_withEms, hjobs]

end

/-- The end of a job leaves every other live job as it was (R113). -/
theorem findJob_endJob_of_ne (o : JobOutcome) (s : State) {id k : Nat} (hk : k ≠ id) :
    findJob (endJob id o s) k = findJob s k := by
  unfold endJob
  split
  · rfl
  · rename_i j hj
    have htell (t : State) : (tellRoutes j t).ems = t.ems :=
      (tellRoutes_changes (b := { routes := true }) rfl j t).ems rfl
    have hnotify (t : State) (c : Bool) (x : Notification) : (notifyIf c x t).ems = t.ems :=
      (notifyIf_changes (b := { link := true }) rfl c x t).ems rfl
    have hp (x : Job) : (x.id != id && x.id == k) = (x.id == k) := by
      by_cases h : x.id = k <;> simp [h, hk]
    simp only [findJob, htell, hnotify, State.withEms_ems, List.find?_filter, Bool.decide_and, Bool.decide_eq_true, hp]
    rfl

/-! ### The examination of the queues leaves every job that is not QUEUED as it was (R109, R110) -/

theorem findJob_startStep_of_ne (step moment : Nat) (afterSend : Bool) (s : State) {id k : Nat} (hk : k ≠ id) :
    findJob (startStep id step moment afterSend s) k = findJob s k := by
  unfold startStep
  split
  · rfl
  · split
    · split
      · exact findJob_endJob_of_ne _ s hk
      · exact findJob_updateJob_of_ne (by intro _; rfl) s hk
      · split
        · rw [findJob_endJob_of_ne _ _ hk, findJob_updateJob_of_ne (by intro _; rfl) s hk]
        · exact findJob_updateJob_of_ne (by intro _; rfl) s hk
    · rfl

theorem findJob_activateSlot_of_ne (slot : Nat) (limit : Option Nat) (s : State) {id k : Nat} (hk : k ≠ id) :
    findJob (activateSlot id slot limit s) k = findJob s k := by
  unfold activateSlot
  split
  · exact findJob_endJob_of_ne _ s hk
  · exact findJob_updateJob_of_ne (by intro _; rfl) s hk

theorem findJob_activate_of_ne (s : State) {id k : Nat} (hk : k ≠ id) : findJob (activate id s) k = findJob s k := by
  unfold activate
  split
  · rfl
  · split
    · exact findJob_activateSlot_of_ne _ _ s hk
    · exact findJob_activateSlot_of_ne _ _ s hk
    · rw [findJob_startStep_of_ne _ _ _ _ hk, findJob_updateJob_of_ne (by intro _; rfl) s hk]

theorem queued_of_firstActivatable {s : State} {id : Nat} (h : firstActivatable s = some id) :
    ∃ j, findJob s id = some j ∧ j.state = .queued := by
  obtain ⟨e, -, he⟩ := List.exists_of_findSome?_eq_some h
  have hc : canActivate s id = true := by
    cases hh : headOf s e with
    | none => simp [hh] at he
    | some k => simp only [hh, Option.ite_none_right_eq_some, Option.some.injEq] at he; obtain ⟨hc, rfl⟩ := he; exact hc
  unfold canActivate at hc
  split at hc
  · cases hc
  · rename_i j hj
    exact ⟨j, hj, by simpa using (Bool.and_eq_true_iff.1 hc).1⟩

theorem findJob_examineFor {id : Nat} {j : Job} (hq : j.state ≠ .queued) (fuel : Nat) {s : State}
    (h : findJob s id = some j) : findJob (examineFor fuel s) id = some j := by
  induction fuel generalizing s with
  | zero => exact h
  | succ fuel ih =>
    unfold examineFor
    split
    · rename_i k hk
      obtain ⟨x, hx, hxq⟩ := queued_of_firstActivatable hk
      have hne : id ≠ k := by
        rintro rfl
        rw [h] at hx
        cases hx
        exact hq hxq
      exact ih ((findJob_activate_of_ne s hne).trans h)
    · exact h

theorem findJob_examine {s : State} {id : Nat} {j : Job} (h : findJob s id = some j) (hq : j.state ≠ .queued) :
    findJob (examine s) id = some j := findJob_examineFor hq _ h

/-- While a job lives standby is not entered (R181, R185). -/
theorem settleStandby_of_findJob {s : State} {id : Nat} {j : Job} (h : findJob s id = some j) : settleStandby s = s := by
  have hjobs : noLiveJob s = false := by
    cases hl : s.ems.jobs with
    | nil => simp [findJob, hl] at h
    | cons x l => simp [noLiveJob, hl]
  simp [settleStandby, readyForStandby, hjobs]

/-- So it is not entered in a step that ends with an examination beside a job that plays. -/
theorem settleStandby_examine {s : State} {id : Nat} {j : Job} (h : findJob s id = some j) (hq : j.state ≠ .queued) :
    settleStandby (examine s) = examine s := settleStandby_of_findJob (findJob_examine h hq)

end Sys2Proof.Machine
end

section
/-! The end of a frame (R126, R128): the state in which the frame is counted, and how the job goes on from there. -/

namespace Sys2Proof.Machine

/-- Frame `n + 1` of a job is counted, its channels have ended it, and the job's time line stands in a phase (R128). -/
def frameCounted (id n : Nat) (j : Job) (r : Record) (run : FrameRun) (ph : PlayPhase) (u : State) : State :=
  updateJob (updateParticipants j (fun c => c.frameEnds u.opc.params.minFrameGap run.stop) u) id fun k =>
    { k with
      framesSent := min 65535 (k.framesSent + 1)
      play := some { snapshot := some r, stepFrames := n + 1, phase := ph } }

section
variable {id n : Nat} {j : Job} {r : Record} {run : FrameRun} {u : State}

theorem findJob_frameCounted (h : findJob u id = some j) (ph : PlayPhase) :
    findJob (frameCounted id n j r run ph u) id =
      some { j with
        framesSent := min 65535 (j.framesSent + 1)
        play := some { snapshot := some r, stepFrames := n + 1, phase := ph } } :=
  findJob_updateJob_same (by intro _; rfl) h

theorem setPhase_frameCounted (ph ph' : PlayPhase) :
    setPhase id ph' (frameCounted id n j r run ph u) = frameCounted id n j r run ph' u :=
  updateJob_updateJob (by intro _; rfl) _ id _

/-- A job that waits, or plays on, after its frame keeps the part out of standby. -/
theorem settleStandby_examine_frameCounted (h : findJob u id = some j) (hq : j.state ≠ .queued) (ph : PlayPhase) :
    settleStandby (examine (frameCounted id n j r run ph u)) = examine (frameCounted id n j r run ph u) :=
  settleStandby_examine (findJob_frameCounted h ph) hq

theorem frameEndEvent_of_due (hj : findJob u id = some j)
    (hp : j.play = some { snapshot := some r, stepFrames := n, phase := .frame run })
    (hlast : run.element + 1 = (r.frameDurations (n + 1)).length) (hdue : run.stop ≤ u.now)
    (hpart : participants u j ≠ []) :
    frameEndEvent id u =
      examine (afterFrame j { snapshot := some r, stepFrames := n + 1, phase := .frame run } r run
        (frameCounted id n j r run (.frame run) u)) := by
  simp only [frameEndEvent, hj, hp]
  exact if_pos ⟨hlast, hdue, hpart⟩

theorem frameEndEvent_of_early (hj : findJob u id = some j)
    (hp : j.play = some { snapshot := some r, stepFrames := n, phase := .frame run }) (hearly : u.now < run.stop) :
    frameEndEvent id u = u := by
  simp only [frameEndEvent, hj, hp]
  exact if_neg fun h => by omega

theorem exec_frameEnd_due {dt : Nat} {s : State} (hj : findJob (advance dt s) id = some j)
    (hp : j.play = some { snapshot := some r, stepFrames := n, phase := .frame run })
    (hlast : run.element + 1 = (r.frameDurations (n + 1)).length) (hdue : run.stop ≤ (advance dt s).now)
    (hpart : participants (advance dt s) j ≠ []) :
    exec (.frameEnd dt id) s =
      .next (settleStandby (examine
        (afterFrame j { snapshot := some r, stepFrames := n + 1, phase := .frame run } r run
          (frameCounted id n j r run (.frame run) (advance dt s))))) := by
  rw [← frameEndEvent_of_due hj hp hlast hdue hpart]
  rfl

theorem exec_frameEnd_early {dt : Nat} {s : State} (hj : findJob (advance dt s) id = some j)
    (hp : j.play = some { snapshot := some r, stepFrames := n, phase := .frame run })
    (hearly : (advance dt s).now < run.stop) : exec (.frameEnd dt id) s = .next (advance dt s) := by
  have h : exec (.frameEnd dt id) s = .next (settleStandby (frameEndEvent id (advance dt s))) := rfl
  rw [h, frameEndEvent_of_early hj hp hearly, settleStandby_of_findJob hj]

/-! ### How a job goes on -/

section
variable {t : State} {m slot asked : Nat} {ph : PlayPhase}

theorem stopsAtFrameEnd_iff {why : JobOutcome} {p : Play} :
    stopsAtFrameEnd why p = true ↔ why = .cancelled ∨ p.minFrames ≤ p.stepFrames := by
  simp [stopsAtFrameEnd]

theorem afterFrame_ending {why : JobOutcome} (hs : j.state = .ending why) :
    afterFrame j { snapshot := some r, stepFrames := m, phase := ph } r run t =
      if why = .cancelled ∨ r.minFrames ≤ m then endJob j.id why t else nextFrame j r run t := by
  simp only [afterFrame, hs, stopsAtFrameEnd_iff]
  rfl

theorem afterFrame_send (hs : j.state = .active) (hk : j.kind = .send slot asked) :
    afterFrame j { snapshot := some r, stepFrames := m, phase := ph } r run t =
      if max asked r.minFrames ≤ m then endJob j.id .done t else nextFrame j r run t := by
  simp only [afterFrame, hs, hk]
  rfl

theorem afterFrame_hold (hs : j.state = .active) (hk : j.kind = .hold slot asked) :
    afterFrame j { snapshot := some r, stepFrames := m, phase := ph } r run t = nextFrame j r run t := by
  simp only [afterFrame, hs, hk]

theorem afterFrame_sequence {steps : List Machine.Step} (hs : j.state = .active) (hk : j.kind = .sequence steps)
    (hstep : steps[j.step - 1]? = some (.send slot asked)) :
    afterFrame j { snapshot := some r, stepFrames := m, phase := ph } r run t =
      if max asked r.minFrames ≤ m then stepEnds j steps run.stop true t else nextFrame j r run t := by
  simp only [afterFrame, hs, hk, hstep]
  rfl

end

/-- The gap before the next frame: the later of the repeat interval and MIN_FRAME_GAP (R9). -/
def gapAfter (r : Record) (run : FrameRun) (u : State) : PlayPhase :=
  .gap (max (run.start + 40000 * r.interval) (run.stop + 40000 * u.opc.params.minFrameGap))

theorem nextFrame_frameCounted (hid : j.id = id) (ph : PlayPhase) :
    nextFrame j r run (frameCounted id n j r run ph u) = frameCounted id n j r run (gapAfter r run u) u := by
  subst hid
  exact setPhase_frameCounted ph _

/-- A SEND step followed by a SEND step: the job waits MIN_FRAME_GAP (R133). -/
theorem stepEnds_frameCounted_send {steps : List Machine.Step} {slot frames : Nat} (hid : j.id = id)
    (hnext : steps[j.step]? = some (.send slot frames)) (ph : PlayPhase) :
    stepEnds j steps run.stop true (frameCounted id n j r run ph u) =
      frameCounted id n j r run (.stepGap (run.stop + 40000 * u.opc.params.minFrameGap)) u := by
  subst hid
  rw [stepEnds, hnext]
  exact setPhase_frameCounted ph _

/-- A SEND step followed by a PAUSE step, which begins at the frame end (R132). -/
theorem stepEnds_frameCounted_pause {steps : List Machine.Step} {d : Nat} (hj : findJob u id = some j)
    (hkind : j.kind = .sequence steps) (hnext : steps[j.step]? = some (.pause d)) (ph : PlayPhase) :
    stepEnds j steps run.stop true (frameCounted id n j r run ph u) =
      updateJob (frameCounted id n j r run ph u) id fun k =>
        { k with
          step := j.step + 1
          play := some { snapshot := none, stepFrames := 0, phase := .pause (run.stop + 40000 * d) } } := by
  simp only [stepEnds, hnext, id_of_findJob hj, startStep, findJob_frameCounted hj, hkind, Nat.add_sub_cancel]
  rfl

end

/-- Settles O48: the event counts the frame, and the case of the job's state and kind says how it goes on. -/
theorem frameEndCounts : Obligations.frameEndCounts := by
  intro dt id n slot asked why j r run s u counted pausing ended next hj hp hlast
  have hid := id_of_findJob hj
  refine ⟨fun hdue hpart => ?_, exec_frameEnd_early hj hp, fun c gap moment => rfl⟩
  rw [exec_frameEnd_due hj hp hlast hdue hpart]
  have hgoesOn (hq : j.state ≠ .queued) :
      settleStandby (examine (nextFrame j r run (frameCounted id n j r run (.frame run) u))) = examine next := by
    rw [nextFrame_frameCounted hid, settleStandby_examine_frameCounted hj hq]
    rfl
  refine ⟨fun hs hk hn => ?_, fun hs hk hn => ?_, fun hs hk => ?_, fun hs hn => ?_, fun hs hc hn => ?_,
    fun steps hs hk hstep => ⟨fun hn => ?_, fun slot' frames' hn hnext => ?_, fun d hn hnext => ?_, fun hn hnext => ?_⟩⟩
  · rw [afterFrame_send hs hk, if_pos hn, hid]
    rfl
  · rw [afterFrame_send hs hk, if_neg (not_le.2 hn), hgoesOn (by simp [hs])]
  · rw [afterFrame_hold hs hk, hgoesOn (by simp [hs])]
  · rw [afterFrame_ending hs, if_pos hn, hid]
    rfl
  · rw [afterFrame_ending hs, if_neg (by rw [not_or]; exact ⟨hc, not_le.2 hn⟩), hgoesOn (by simp [hs])]
  · rw [afterFrame_sequence hs hk hstep, if_neg (not_le.2 hn), hgoesOn (by simp [hs])]
  · rw [afterFrame_sequence hs hk hstep, if_pos hn, stepEnds_frameCounted_send hid hnext,
      settleStandby_examine_frameCounted hj (by simp [hs])]
    rfl
  · rw [afterFrame_sequence hs hk hstep, if_pos hn, stepEnds_frameCounted_pause hj hk hnext,
      settleStandby_examine (findJob_updateJob_same (by intro _; rfl) (findJob_frameCounted hj _)) (by simp [hs]),
      frameCounted, updateJob_updateJob (by intro _; rfl)]
    rfl
  · rw [afterFrame_sequence hs hk hstep, if_pos hn, stepEnds, hnext, hid]
    rfl

end Sys2Proof.Machine
end

section
/-! The directory, the pool and the free set as lists: what a table holds by its entries, the free set after an insertion, and
the segments of the VALID chains after a change of the directory (R15 to R17). -/

namespace Sys2Proof.Machine

/-! ### Tables by their entries -/

section
variable {α : Type}

theorem Table.mem_of_get {l : List (Nat × α)} {k : Nat} {v : α} (h : Table.get l k = some v) : (k, v) ∈ l := by
  induction l with
  | nil => simp at h
  | cons p rest ih =>
    obtain ⟨a, w⟩ := p
    by_cases ha : a = k
    · simp only [Table.get, ha, if_true, Option.some.injEq] at h
      simp [ha, h]
    · simp only [Table.get, ha, if_false] at h
      exact List.mem_cons_of_mem _ (ih h)

theorem Table.get_eq_none_iff {l : List (Nat × α)} {k : Nat} : Table.get l k = none ↔ k ∉ l.map (·.1) := by
  induction l with
  | nil => simp
  | cons p rest ih =>
    obtain ⟨a, w⟩ := p
    by_cases ha : a = k
    · simp [Table.get, ha]
    · simp [Table.get, ha, ih, Ne.symm ha]

theorem Table.nodup_keys {l : List (Nat × α)} (h : Table.wf l = true) : (l.map (·.1)).Nodup :=
  List.pairwise_map.2 (((Table.wf_iff_pairwise l).1 h).imp fun hlt => hlt.ne)

/-- Erasing under a key that a table does not list changes nothing. -/
theorem Table.erase_of_get_none {l : List (Nat × α)} {k : Nat} (h : Table.get l k = none) : Table.erase l k = l := by
  induction l with
  | nil => rfl
  | cons p rest ih =>
    obtain ⟨a, w⟩ := p
    by_cases ha : a = k
    · simp [Table.get, ha] at h
    · simp only [Table.get, ha, if_false] at h
      simp [Table.erase, ha, ih h]

/-- What a table lists: the entry under a key, and the entries that an erasure leaves. -/
theorem Table.perm_erase {l : List (Nat × α)} {k : Nat} {v : α} (h : Table.get l k = some v) :
    l.Perm ((k, v) :: Table.erase l k) := by
  induction l with
  | nil => simp at h
  | cons p rest ih =>
    obtain ⟨a, w⟩ := p
    by_cases ha : a = k
    · simp only [Table.get, ha, if_true, Option.some.injEq] at h
      simp [Table.erase, ha, h]
    · simp only [Table.get, ha, if_false] at h
      simp only [Table.erase, ha, if_false]
      exact ((ih h).cons _).trans (.swap ..)

/-- A write to a canonical table puts the new entry beside those that an erasure leaves. -/
theorem Table.perm_set {l : List (Nat × α)} (hwf : Table.wf l = true) (k : Nat) (v : α) :
    (Table.set l k v).Perm ((k, v) :: Table.erase l k) := by
  induction l with
  | nil => exact .refl _
  | cons p rest ih =>
    obtain ⟨a, w⟩ := p
    obtain ⟨hlt, hrest⟩ := Table.wf_cons.1 hwf
    by_cases hka : k < a
    · have habsent : Table.get ((a, w) :: rest) k = none := by
        rw [Table.get_eq_none_iff]
        simp only [List.map_cons, List.mem_cons, List.mem_map, not_or, not_exists, not_and]
        exact ⟨hka.ne, fun p hp => (hka.trans (hlt p hp)).ne'⟩
      rw [Table.erase_of_get_none habsent]
      simp [Table.set, hka]
    · by_cases hk : k = a
      · simp [Table.set, Table.erase, hk]
      · simp only [Table.set, Table.erase, hka, if_false, hk, Ne.symm hk]
        exact ((ih hrest).cons _).trans (.swap ..)

/-- What is picked from a canonical table under a key is picked from the entry under that key. -/
theorem Table.get_filterMap {β : Type} {l : List (Nat × α)} (hwf : Table.wf l = true) (f : α → Option β) (k : Nat) :
    Table.get (l.filterMap fun p => (f p.2).map (p.1, ·)) k = (Table.get l k).bind f := by
  induction l with
  | nil => rfl
  | cons p rest ih =>
    obtain ⟨a, v⟩ := p
    obtain ⟨hlt, hrest⟩ := Table.wf_cons.1 hwf
    by_cases ha : a = k
    · have habsent : Table.get rest k = none := by
        rw [Table.get_eq_none_iff, List.mem_map]
        rintro ⟨p, hp, rfl⟩
        exact (hlt p hp).ne ha
      cases hf : f v with
      | none => simp [hf, ih hrest, habsent, Table.get, ha]
      | some w => simp [hf, Table.get, ha]
    · cases hf : f v <;> simp [hf, ih hrest, Table.get, ha]

end

/-! ### The free set -/

theorem mem_insertAscending {n k : Nat} {l : List Nat} : k ∈ insertAscending n l ↔ k = n ∨ k ∈ l := by
  induction l with
  | nil => simp [insertAscending]
  | cons a rest ih =>
    unfold insertAscending
    split
    · simp
    · split
      · next heq => simp [heq]
      · simp [ih, or_left_comm]

theorem insertAscending_pairwise {n : Nat} {l : List Nat} (h : l.Pairwise (· < ·)) :
    (insertAscending n l).Pairwise (· < ·) := by
  induction l with
  | nil => simp [insertAscending]
  | cons a rest ih =>
    obtain ⟨hlt, hrest⟩ := List.pairwise_cons.1 h
    unfold insertAscending
    split
    · next hna =>
      refine List.pairwise_cons.2 ⟨fun k hk => ?_, h⟩
      rcases List.mem_cons.1 hk with rfl | hk
      · exact hna
      · exact hna.trans (hlt k hk)
    · split
      · exact h
      · next hna hne =>
        refine List.pairwise_cons.2 ⟨fun k hk => ?_, ih hrest⟩
        rcases mem_insertAscending.1 hk with rfl | hk
        · omega
        · exact hlt k hk

theorem insertAscending_perm {n : Nat} {l : List Nat} (h : n ∉ l) : (insertAscending n l).Perm (n :: l) := by
  induction l with
  | nil => exact .refl _
  | cons a rest ih =>
    obtain ⟨hne, hrest⟩ := not_or.1 (mt List.mem_cons.2 h)
    unfold insertAscending
    split
    · exact .refl _
    · exact ((ih hrest).cons a).trans (.swap ..)

theorem mem_freeSegments {k : Nat} {free segments : List Nat} :
    k ∈ freeSegments free segments ↔ k ∈ segments ∨ k ∈ free := by
  induction segments generalizing free with
  | nil => simp [freeSegments]
  | cons n rest ih =>
    have := ih (free := insertAscending n free)
    rw [freeSegments, List.foldl_cons, ← freeSegments, this, mem_insertAscending, List.mem_cons, or_assoc, or_left_comm]

theorem freeSegments_pairwise {free : List Nat} (h : free.Pairwise (· < ·)) (segments : List Nat) :
    (freeSegments free segments).Pairwise (· < ·) := by
  induction segments generalizing free with
  | nil => exact h
  | cons n rest ih => exact ih (insertAscending_pairwise h)

theorem freeSegments_perm {free segments : List Nat} (h : (segments ++ free).Nodup) :
    (freeSegments free segments).Perm (segments ++ free) := by
  induction segments generalizing free with
  | nil => exact .refl _
  | cons n rest ih =>
    obtain ⟨hn, hrest⟩ := List.nodup_cons.1 h
    have hperm := insertAscending_perm fun hfree => hn (List.mem_append_right _ hfree)
    have hmid : (rest ++ insertAscending n free).Perm (n :: (rest ++ free)) :=
      (hperm.append_left rest).trans List.perm_middle
    exact (ih (hmid.nodup_iff.2 h)).trans hmid

/-! ### The segments of the VALID chains -/

/-- The segments of every chain of a directory. -/
def chainSegments (d : List (Nat × DirEntry)) : List Nat := d.flatMap fun e => e.2.chain

/-- The chain of a slot in a directory, empty when the slot is EMPTY. -/
def chainAt (d : List (Nat × DirEntry)) (slot : Nat) : List Nat :=
  match Table.get d slot with
  | some e => e.chain
  | none => []

theorem validSegments_eq (l : Lib) : validSegments l = chainSegments l.directory := rfl

theorem chain_subset_chainSegments {d : List (Nat × DirEntry)} {slot : Nat} {e : DirEntry} (h : Table.get d slot = some e) :
    e.chain ⊆ chainSegments d := fun _ hn => List.mem_flatMap.2 ⟨(slot, e), Table.mem_of_get h, hn⟩

/-- A directory's segments: those of one slot and those of the others. -/
theorem chainSegments_perm (d : List (Nat × DirEntry)) (slot : Nat) :
    (chainSegments d).Perm (chainAt d slot ++ chainSegments (Table.erase d slot)) := by
  unfold chainAt
  split
  · next e he => exact (Table.perm_erase he).flatMap_right _
  · next he => rw [Table.erase_of_get_none he]; exact .refl _

theorem chainSegments_set_perm {d : List (Nat × DirEntry)} (h : Table.wf d = true) (slot : Nat) (e : DirEntry) :
    (chainSegments (Table.set d slot e)).Perm (e.chain ++ chainSegments (Table.erase d slot)) :=
  (Table.perm_set h slot e).flatMap_right _

/-- A STORE or ERASE gives its new chain for the slot's old one. -/
theorem chainSegments_commits_perm {op : LibOp} {d : List (Nat × DirEntry)} (hwf : Table.wf d = true)
    (hnew : op.kind ≠ .store → op.newChain = []) (hkind : op.kind ≠ .setFlags) :
    (chainSegments (op.commits d) ++ chainAt d op.slot).Perm (chainSegments d ++ op.newChain) := by
  have hold : (op.newChain ++ chainSegments (Table.erase d op.slot) ++ chainAt d op.slot).Perm
      (chainSegments d ++ op.newChain) := by
    rw [List.append_assoc]
    exact List.perm_append_comm.trans ((List.perm_append_comm.trans (chainSegments_perm d op.slot).symm).append_right _)
  unfold LibOp.commits
  split
  · exact ((chainSegments_set_perm hwf op.slot op.entry).append_right _).trans hold
  · next hk =>
    rw [hnew (by simp [hk])] at hold ⊢
    exact hold
  · next hk => exact absurd hk hkind

/-- SET_CODE_FLAGS leaves every chain as it is. -/
theorem chainSegments_commits_flags {op : LibOp} {d : List (Nat × DirEntry)} (hwf : Table.wf d = true)
    (hkind : op.kind = .setFlags) : (chainSegments (op.commits d)).Perm (chainSegments d) := by
  unfold LibOp.commits
  simp only [hkind]
  split
  · next e he =>
    have hslot := chainSegments_perm d op.slot
    rw [chainAt, he] at hslot
    exact (chainSegments_set_perm hwf op.slot _).trans hslot.symm
  · exact .refl _

/-- A commit brings in no segment but those of its new chain. -/
theorem chainSegments_commits_subperm {op : LibOp} {d : List (Nat × DirEntry)} (hwf : Table.wf d = true)
    (hnew : op.kind ≠ .store → op.newChain = []) :
    (chainSegments (op.commits d)).Subperm (chainSegments d ++ op.newChain) := by
  by_cases hkind : op.kind = .setFlags
  · exact (chainSegments_commits_flags hwf hkind).subperm.trans (List.sublist_append_left _ _).subperm
  · exact (List.sublist_append_left _ _).subperm.trans (chainSegments_commits_perm hwf hnew hkind).subperm

theorem chainSegments_erase_subperm (d : List (Nat × DirEntry)) (slot : Nat) :
    (chainSegments (Table.erase d slot)).Subperm (chainSegments d) :=
  (List.sublist_append_right _ _).subperm.trans (chainSegments_perm d slot).symm.subperm

theorem wf_commits {d : List (Nat × DirEntry)} (h : Table.wf d = true) (op : LibOp) : Table.wf (op.commits d) = true := by
  unfold LibOp.commits
  split
  · exact Table.wf_set h _ _
  · exact Table.wf_erase h _
  · split
    · exact Table.wf_set h _ _
    · exact h

/-- A commit leaves every other slot alone. -/
theorem get_commits_other (op : LibOp) (d : List (Nat × DirEntry)) {k : Nat} (h : k ≠ op.slot) :
    Table.get (op.commits d) k = Table.get d k := by
  unfold LibOp.commits
  split
  · exact Table.get_set_other d _ h
  · exact Table.get_erase_other d h
  · split
    · exact Table.get_set_other d _ h
    · rfl

/-- The entry that the commit of each kind leaves in its slot (R24, R26, R27). -/
theorem get_commits_same {d : List (Nat × DirEntry)} (h : Table.wf d = true) (op : LibOp) :
    Table.get (op.commits d) op.slot =
      match op.kind with
      | .store => some op.entry
      | .erase => none
      | .setFlags => (Table.get d op.slot).map fun e => { e with flags := op.flags } := by
  cases hk : op.kind with
  | store => simp [LibOp.commits, hk]
  | erase => simp [LibOp.commits, hk, Table.get_erase_same h]
  | setFlags => cases hd : Table.get d op.slot <;> simp [LibOp.commits, hk, hd]

/-- The bytes of an entry come from the segments of its chain alone. -/
theorem chainBytes_congr {l l' : Lib} {e : DirEntry} (h : ∀ n ∈ e.chain, Table.get l'.pool n = Table.get l.pool n) :
    chainBytes l' e = chainBytes l e := by
  unfold chainBytes
  congr 1
  exact List.flatMap_congr fun n hn => by rw [h n hn]

/-- What the index holds of a VALID entry: its lists and flags where it carries RECOGNIZE (R80). -/
def indexed (l : Lib) (d : DirEntry) : Option IndexEntry :=
  if d.flags.recognize then some (indexEntry (Record.ofWire (chainBytes l d)) d.flags) else none

theorem buildIndex_eq (l : Lib) : buildIndex l = l.directory.filterMap fun p => (indexed l p.2).map (p.1, ·) := by
  refine List.filterMap_congr fun p _ => ?_
  by_cases hr : p.2.flags.recognize <;> simp [indexed, hr]

/-- The index built from a canonical directory lists each VALID slot that carries RECOGNIZE, and no other (R81). -/
theorem get_buildIndex {l : Lib} (h : Table.wf l.directory = true) (slot : Nat) :
    Table.get (buildIndex l) slot = (Table.get l.directory slot).bind (indexed l) := by
  rw [buildIndex_eq, Table.get_filterMap h]

theorem wf_buildIndex {l : Lib} (h : Table.wf l.directory = true) : Table.wf (buildIndex l) = true := by
  rw [buildIndex_eq]
  refine Table.wf_filterMap _ (fun p q hq => ?_) h
  obtain ⟨e, -, rfl⟩ := Option.map_eq_some_iff.1 hq
  rfl

end Sys2Proof.Machine
end

section
/-! What every operation outside the library, its mount and the resets leaves alone: the library, the signature index, the
canonical form of the route table, and the operating states and pins that mount follows. -/

namespace Sys2Proof.Machine

/-- From `s` to `t` the library and the signature index stay as they are, the route table stays canonical, the part neither
enters nor leaves MOUNTING, and the link follows the operating state as before. -/
structure BesideLibrary (s t : State) : Prop where
  lib : t.lib = s.lib
  index : t.rcg.index = s.rcg.index
  routes : Table.wf s.routes = true → Table.wf t.routes = true
  mounting : t.opc.state = .mounting ↔ s.opc.state = .mounting
  port : PortFollowsState s → PortFollowsState t
  powered : t.pins.powered = s.pins.powered
  rstnLow : t.pins.rstnLow = s.pins.rstnLow

theorem BesideLibrary.refl (s : State) : BesideLibrary s s := ⟨rfl, rfl, id, Iff.rfl, id, rfl, rfl⟩

theorem BesideLibrary.trans {s t u : State} (h : BesideLibrary s t) (k : BesideLibrary t u) : BesideLibrary s u :=
  ⟨k.lib.trans h.lib, k.index.trans h.index, k.routes ∘ h.routes, k.mounting.trans h.mounting, k.port ∘ h.port,
    k.powered.trans h.powered, k.rstnLow.trans h.rstnLow⟩

theorem BesideLibrary.ite {s t u : State} {c : Prop} [Decidable c] (h : BesideLibrary s t) (k : BesideLibrary s u) :
    BesideLibrary s (if c then t else u) := by
  split
  · exact h
  · exact k

theorem BesideLibrary.foldl {β : Type} {f : State → β → State} (h : ∀ s x, BesideLibrary s (f s x)) (l : List β)
    (s : State) : BesideLibrary s (l.foldl f s) := by
  induction l generalizing s with
  | nil => exact .refl s
  | cons x l ih => exact (h s x).trans (ih (f s x))

/-- The fields that decide: with them unchanged, an operation stays beside the library. -/
theorem BesideLibrary.of_same {s t : State} (hlib : t.lib = s.lib) (hindex : t.rcg.index = s.rcg.index)
    (hroutes : t.routes = s.routes) (hopc : t.opc.state = s.opc.state) (hlink : t.link.state = s.link.state)
    (hpow : t.pins.powered = s.pins.powered) (hrst : t.pins.rstnLow = s.pins.rstnLow) : BesideLibrary s t :=
  ⟨hlib, hindex, fun h => hroutes ▸ h, by rw [hopc], fun h => by unfold PortFollowsState at *; rwa [hopc, hlink], hpow, hrst⟩

/-- The blocks that have no part in the library, its index, the route table, the operating state or the port. -/
def Blocks.besideLibrary : Blocks :=
  { now := true, draws := true, cap := true, lrn := true, ems := true, channels := true, pending := true }

theorem BesideLibrary.of_changes {s t : State} (h : Changes Blocks.besideLibrary s t) : BesideLibrary s t :=
  .of_same (h.lib rfl) (by rw [h.rcg rfl]) (h.routes rfl) (by rw [h.opc rfl]) (by rw [h.link rfl]) (by rw [h.pins rfl])
    (by rw [h.pins rfl])

/-- The link may change in everything but its state. -/
theorem BesideLibrary.withLink (s : State) {l : Link} (h : l.state = s.link.state) : BesideLibrary s (s.withLink l) :=
  .of_same rfl rfl rfl rfl h rfl rfl

/-- The Recognizer may change in everything but its index. -/
theorem BesideLibrary.withRcg (s : State) {r : Rec} (h : r.index = s.rcg.index) : BesideLibrary s (s.withRcg r) :=
  .of_same rfl h rfl rfl rfl rfl rfl

theorem BesideLibrary.withRoutes (s : State) {r : List (Nat × Route)} (h : Table.wf s.routes = true → Table.wf r = true) :
    BesideLibrary s (s.withRoutes r) :=
  ⟨rfl, rfl, h, Iff.rfl, id, rfl, rfl⟩

theorem BesideLibrary.withChannels (s : State) (c : PerEmitter Channel) : BesideLibrary s (s.withChannels c) :=
  .of_same rfl rfl rfl rfl rfl rfl rfl

theorem BesideLibrary.withCap (s : State) (c : Cap) : BesideLibrary s (s.withCap c) :=
  .of_same rfl rfl rfl rfl rfl rfl rfl

theorem BesideLibrary.withLrn (s : State) (l : Lrn) : BesideLibrary s (s.withLrn l) :=
  .of_same rfl rfl rfl rfl rfl rfl rfl

theorem BesideLibrary.withEms (s : State) (m : Ems) : BesideLibrary s (s.withEms m) :=
  .of_same rfl rfl rfl rfl rfl rfl rfl

theorem advance_beside (dt : Nat) (s : State) : BesideLibrary s (advance dt s) :=
  .ite (.of_same rfl rfl rfl rfl rfl rfl rfl) (.refl s)

/-! ### The outbound queue -/

@[simp] theorem Link.notify_state (l : Link) (n : Notification) : (l.notify n).state = l.state := by
  unfold Link.notify
  split <;> rfl

theorem notify_beside (n : Notification) (s : State) : BesideLibrary s (notify n s) := .withLink s (Link.notify_state _ n)

theorem notifyIf_beside (c : Bool) (n : Notification) (s : State) : BesideLibrary s (notifyIf c n s) :=
  .ite (notify_beside n s) (.refl s)

theorem reply_beside (tag : Byte) (st : Status) (more : List Byte) (s : State) : BesideLibrary s (reply tag st more s) :=
  .withLink s rfl

theorem replyStatus_beside (tag : Byte) (st : Status) (s : State) : BesideLibrary s (replyStatus tag st s) :=
  reply_beside tag st [] s

/-! ### The Learn Unit -/

theorem setCtx_beside (s : State) (input : Source) (x : Context) : BesideLibrary s (setCtx s input x) := .withCap s _

theorem detachSession_beside (x : Session) (s : State) : BesideLibrary s (detachSession x s) :=
  .of_changes (detachSession_changes rfl rfl x s)

theorem failSession_beside (x : Session) (w : LearnOutcome) (c : Nat) (s : State) :
    BesideLibrary s (failSession x w c s) :=
  (detachSession_beside x s).trans (notify_beside _ _)

theorem reduceSession_beside (x : Session) (s : State) : BesideLibrary s (reduceSession x s) := by
  unfold reduceSession
  split
  · exact failSession_beside x _ 0 s
  · exact ((detachSession_beside x s).trans (.withLrn _ _)).trans (notify_beside _ _)

theorem endGapExpires_beside (x : Session) (s : State) : BesideLibrary s (endGapExpires x s) :=
  .ite (.withLrn s _) (reduceSession_beside x s)

theorem endGapAtOnce_beside (x : Session) (s : State) : BesideLibrary s (endGapAtOnce x s) :=
  .ite (endGapExpires_beside x s) (.withLrn s _)

theorem learnTakesFrame_beside (input : Source) (f : Frame) (m : Option Measurement) (s : State) :
    BesideLibrary s (learnTakesFrame input f m s) := by
  unfold learnTakesFrame
  split
  · unfold sessionTakesFrame
    split
    · exact .ite (.refl s) (endGapAtOnce_beside _ s)
    · exact .ite (reduceSession_beside _ s) (endGapAtOnce_beside _ s)
  · exact .refl s

theorem learnTakesError_beside (input : Source) (e : CaptureError) (t : Stamp) (s : State) :
    BesideLibrary s (learnTakesError input e t s) := by
  unfold learnTakesError
  split
  · exact .refl s
  · split
    · exact failSession_beside _ _ _ s
    · exact endGapAtOnce_beside _ s

theorem discarding_beside (input : Source) {f : State → State} (hf : ∀ s, BesideLibrary s (f s)) (s : State) :
    BesideLibrary s (discarding input f s) := by
  unfold discarding
  split
  · exact (hf s).trans (reduceSession_beside _ _)
  · exact hf s

theorem ctxMasked_beside (input : Source) (s : State) : BesideLibrary s (ctxMasked input s) :=
  .of_changes (ctxMasked_changes rfl input s)

theorem maskingRises_beside (s : State) : BesideLibrary s (maskingRises s) :=
  (discarding_beside .sense (ctxMasked_beside .sense) s).trans (discarding_beside .learn (ctxMasked_beside .learn) _)

theorem maskingEnds_beside (s : State) : BesideLibrary s (maskingEnds s) := .of_changes (maskingEnds_changes rfl s)

theorem withMasking_beside {f : State → State} {s : State} (h : BesideLibrary s (f s)) :
    BesideLibrary s (withMasking f s) :=
  .ite (h.trans (maskingRises_beside _)) (.ite (h.trans (maskingEnds_beside _)) h)

/-! ### The Emission Scheduler -/

theorem updateJob_beside (s : State) (id : Nat) (f : Job → Job) : BesideLibrary s (updateJob s id f) := .withEms s _

theorem updateChannel_beside (s : State) (e : Emitter) (f : Channel → Channel) : BesideLibrary s (updateChannel s e f) :=
  .withChannels s _

theorem wf_clearLinks {routes : List (Nat × Route)} (h : Table.wf routes = true) (id : Nat) :
    Table.wf (clearLinks routes id) = true :=
  Table.wf_map (fun p : Nat × Route => (if p.2.link = some id then { p.2 with link := none } else p.2 : Route)) h

theorem tellRoutes_beside (j : Job) (s : State) : BesideLibrary s (tellRoutes j s) := by
  unfold tellRoutes
  split
  · exact .withRoutes s fun h => wf_clearLinks h _
  · exact .refl s

theorem endJob_beside (id : Nat) (o : JobOutcome) (s : State) : BesideLibrary s (endJob id o s) := by
  unfold endJob
  split
  · exact .refl s
  · exact (((BesideLibrary.withChannels s _).trans (.withEms _ _)).trans (notifyIf_beside _ _ _)).trans
      (tellRoutes_beside _ _)

theorem startStep_beside (id k moment : Nat) (a : Bool) (s : State) : BesideLibrary s (startStep id k moment a s) := by
  unfold startStep
  split
  · exact .refl s
  · split
    · split
      · exact endJob_beside _ _ s
      · exact updateJob_beside s _ _
      · split
        · exact (updateJob_beside s _ _).trans (endJob_beside _ _ _)
        · exact updateJob_beside s _ _
    · exact .refl s

theorem activateSlot_beside (id slot : Nat) (l : Option Nat) (s : State) :
    BesideLibrary s (activateSlot id slot l s) := by
  unfold activateSlot
  split
  · exact endJob_beside _ _ s
  · exact updateJob_beside s _ _

theorem activate_beside (id : Nat) (s : State) : BesideLibrary s (activate id s) := by
  unfold activate
  split
  · exact .refl s
  · split
    · exact activateSlot_beside _ _ _ s
    · exact activateSlot_beside _ _ _ s
    · exact (updateJob_beside s _ _).trans (startStep_beside _ _ _ _ _)

theorem examineFor_beside (n : Nat) (s : State) : BesideLibrary s (examineFor n s) := by
  induction n generalizing s with
  | zero => exact .refl s
  | succ n ih =>
    unfold examineFor
    split
    · exact (activate_beside _ s).trans (ih _)
    · exact .refl s

theorem examine_beside (s : State) : BesideLibrary s (examine s) := examineFor_beside _ s

theorem enterEnding_beside (id : Nat) (w : JobOutcome) (s : State) : BesideLibrary s (enterEnding id w s) := by
  unfold enterEnding
  split
  · exact .refl s
  · exact .ite ((updateJob_beside s _ _).trans (endJob_beside _ _ _)) (updateJob_beside s _ _)

theorem cancelJob_beside (id : Nat) (s : State) : BesideLibrary s (cancelJob id s) := by
  unfold cancelJob
  split
  · exact .refl s
  · split
    · exact endJob_beside _ _ s
    · exact enterEnding_beside _ _ s
    · exact .refl s

theorem releaseJob_beside (id : Nat) (s : State) : BesideLibrary s (releaseJob id s) := by
  unfold releaseJob
  split
  · exact .refl s
  · split
    · split
      · exact updateJob_beside s _ _
      · exact enterEnding_beside _ _ s
      · exact .refl s
    · exact .refl s

theorem failQueued_beside (e : Emitter) (o : JobOutcome) (s : State) : BesideLibrary s (failQueued e o s) :=
  .foldl (fun s id => endJob_beside id o s) _ s

theorem faultHead_beside (e : Emitter) (s : State) : BesideLibrary s (faultHead e s) := by
  unfold faultHead
  split
  · exact .refl s
  · split
    · exact .refl s
    · split
      · exact .refl s
      · exact enterEnding_beside _ _ s
      · exact .ite (endJob_beside _ _ s) (.refl s)

theorem driveFault_beside (e : Emitter) (k : FaultKind) (s : State) : BesideLibrary s (driveFault e k s) :=
  (((updateChannel_beside s e _).trans (notify_beside _ _)).trans
    ((failQueued_beside e _ _).trans (faultHead_beside e _))).trans (examine_beside _)

/-! ### The Route Table -/

theorem updateRoute_beside (s : State) (i : Nat) (f : Route → Route) : BesideLibrary s (updateRoute s i f) := by
  unfold updateRoute
  split
  · exact .withRoutes s fun h => Table.wf_set h i _
  · exact .refl s

theorem routeAdmission_beside (i : Nat) (r : Route) (s : State) : BesideLibrary s (routeAdmission i r s) := by
  unfold routeAdmission
  split
  · exact notify_beside _ s
  · refine BesideLibrary.trans ?_ (examine_beside _)
    split
    · exact (BesideLibrary.withEms s _).trans (updateRoute_beside _ _ _)
    · exact .withEms s _

theorem routeRelease_beside (i : Nat) (s : State) : BesideLibrary s (routeRelease i s) := by
  unfold routeRelease
  split
  · exact .refl s
  · split
    · exact .refl s
    · exact ((releaseJob_beside _ s).trans (examine_beside _)).trans (updateRoute_beside _ _ _)

theorem routeTurn_beside (slot : Nat) (k : Trigger) (s : State) (i : Nat) : BesideLibrary s (routeTurn slot k s i) := by
  unfold routeTurn
  split
  · exact .refl s
  · exact .ite (.refl s) (.ite (routeAdmission_beside _ _ s) (.ite (routeRelease_beside _ s) (.refl s)))

theorem routeReleaseTurn_beside (slot : Nat) (s : State) (i : Nat) : BesideLibrary s (routeReleaseTurn slot s i) := by
  unfold routeReleaseTurn
  split
  · exact .refl s
  · exact .ite (routeRelease_beside _ s) (.refl s)

theorem routeEvent_beside (slot : Nat) (k : Trigger) (s : State) : BesideLibrary s (routeEvent slot k s) := by
  unfold routeEvent
  split
  · exact .foldl (routeTurn_beside slot k) _ s
  · exact .ite (.foldl (routeReleaseTurn_beside slot) _ s) (.refl s)
  · exact .refl s

/-! ### The Recognizer -/

theorem setPress_beside (p : Option Press) (s : State) : BesideLibrary s (setPress p s) := .withRcg s rfl

theorem beginPress_beside (slot : Nat) (s : State) : BesideLibrary s (beginPress slot s) :=
  ((setPress_beside _ s).trans (notifyIf_beside _ _ _)).trans (routeEvent_beside _ _ _)

theorem endPress_beside (p : Press) (w : ReleaseReason) (s : State) : BesideLibrary s (endPress p w s) :=
  ((notifyIf_beside _ _ s).trans (routeEvent_beside _ _ _)).trans (setPress_beside _ _)

theorem continuePress_beside (p : Press) (s : State) : BesideLibrary s (continuePress p s) :=
  .ite (((setPress_beside _ s).trans (notifyIf_beside _ _ _)).trans (routeEvent_beside _ _ _)) (setPress_beside _ s)

theorem actOnFrame_beside (d : List Nat) (s : State) : BesideLibrary s (actOnFrame d s) := by
  unfold actOnFrame
  split
  · exact continuePress_beside _ s
  · exact .refl s
  · exact beginPress_beside _ s
  · exact (endPress_beside _ _ s).trans (beginPress_beside _ _)
  · exact notifyIf_beside _ _ s

/-- A wake leaves the link CLOSED, in STANDBY and in WAKING (R170, R186). -/
theorem beginWake_beside (cause : WakeCause) {s : State} (h : s.opc.state = .standby) :
    BesideLibrary s (beginWake cause s) where
  lib := rfl
  index := rfl
  routes := id
  mounting := by simp [beginWake, h]
  port := by simp [PortFollowsState, beginWake, h, OpState.isOpen]
  powered := rfl
  rstnLow := rfl

theorem recognizerTakesFrame_beside (d : List Nat) (s : State) : BesideLibrary s (recognizerTakesFrame d s) := by
  unfold recognizerTakesFrame
  split
  · exact actOnFrame_beside d s
  · exact actOnFrame_beside d s
  · next hstandby =>
    unfold standbyFrame
    split
    · next =>
      have hkept : BesideLibrary s (s.withRcg { s.rcg with kept := [d] }) := .withRcg s rfl
      exact .ite (hkept.trans (beginWake_beside _ hstandby)) (.refl s)
    · exact .refl s
  · exact .withRcg s rfl
  · exact .refl s

theorem actOnKept_beside (s : State) : BesideLibrary s (actOnKept s) :=
  (BesideLibrary.withRcg s (r := { s.rcg with kept := [] }) rfl).trans (.foldl (fun s d => actOnFrame_beside d s) _ _)

theorem releaseTimerEvent_beside (s : State) : BesideLibrary s (releaseTimerEvent s) := by
  unfold releaseTimerEvent
  split
  · exact .ite (endPress_beside _ _ s) (.refl s)
  · exact .refl s

/-! ### The Capture Unit -/

theorem deliverSense_beside (f : Frame) (s : State) : BesideLibrary s (deliverSense f s) := by
  unfold deliverSense
  have hdraw : BesideLibrary s (countDraw s) := .of_same rfl rfl rfl rfl rfl rfl rfl
  split
  · exact recognizerTakesFrame_beside _ s
  · exact .ite ((hdraw.trans (recognizerTakesFrame_beside _ _)).trans (learnTakesFrame_beside _ _ _ _))
      ((hdraw.trans (learnTakesFrame_beside _ _ _ _)).trans (recognizerTakesFrame_beside _ _))

theorem deliverLearn_beside (f : Frame) (m : Option Measurement) (s : State) : BesideLibrary s (deliverLearn f m s) := by
  unfold deliverLearn
  split
  · exact .ite (learnTakesFrame_beside _ _ _ s) (learnTakesError_beside _ _ _ s)
  · exact learnTakesFrame_beside _ _ _ s

theorem frameEnds_beside (input : Source) (s : State) : BesideLibrary s (frameEnds input s) := by
  cases input with
  | sense => exact (setCtx_beside s .sense _).trans (deliverSense_beside _ _)
  | learn => exact (setCtx_beside s .learn _).trans (deliverLearn_beside _ _ _)

theorem captureError_beside (input : Source) (e : CaptureError) (s : State) : BesideLibrary s (captureError input e s) :=
  (setCtx_beside s input _).trans (learnTakesError_beside input e _ _)

theorem takeEnvelope_beside (input : Source) (s : State) : BesideLibrary s (takeEnvelope input s) :=
  .ite (setCtx_beside s input _) (.refl s)

theorem takeSettled_beside (input : Source) (s : State) : BesideLibrary s (takeSettled input s) :=
  .ite (setCtx_beside s input _) (.refl s)

theorem takeGap_beside (input : Source) (s : State) : BesideLibrary s (takeGap input s) :=
  .ite (frameEnds_beside input s) (.refl s)

theorem takeCandidate_beside (input : Source) (s : State) : BesideLibrary s (takeCandidate input s) :=
  .ite (.ite (captureError_beside input _ s) (setCtx_beside s input _)) (.refl s)

theorem takeLong_beside (input : Source) (s : State) : BesideLibrary s (takeLong input s) :=
  .ite (captureError_beside input _ s) (.refl s)

theorem catchUp_beside (input : Source) (s : State) : BesideLibrary s (catchUp input s) := by
  have hsettle (c : Prop) [Decidable c] (s : State) : BesideLibrary s (if c then ctxIdle input s else s) :=
    .ite (setCtx_beside s input _) (.refl s)
  have hgap (c : Prop) [Decidable c] (s : State) : BesideLibrary s (if c then takeGap input s else s) :=
    .ite (takeGap_beside input s) (.refl s)
  exact (((takeEnvelope_beside input s).trans (hsettle _ _)).trans (hgap _ _)).trans
    ((takeCandidate_beside input _).trans (takeLong_beside input _))

theorem riseEvent_beside (input : Source) (s : State) : BesideLibrary s (riseEvent input s) :=
  (catchUp_beside input s).trans (.ite (.refl _)
    ((((BesideLibrary.withCap _ _).trans (setCtx_beside _ input _)).trans (takeCandidate_beside input _)).trans
      (takeLong_beside input _)))

theorem fallEvent_beside (input : Source) (s : State) : BesideLibrary s (fallEvent input s) :=
  (catchUp_beside input s).trans (.ite ((BesideLibrary.withCap _ _).trans (setCtx_beside _ input _)) (.refl _))

theorem candidateEvent_beside (input : Source) (s : State) : BesideLibrary s (candidateEvent input s) :=
  (takeEnvelope_beside input s).trans (takeCandidate_beside input _)

theorem gapEvent_beside (input : Source) (s : State) : BesideLibrary s (gapEvent input s) :=
  (takeEnvelope_beside input s).trans (takeGap_beside input _)

theorem longEvent_beside (input : Source) (s : State) : BesideLibrary s (longEvent input s) :=
  (takeEnvelope_beside input s).trans (takeLong_beside input _)

theorem windowEvent_beside (s : State) : BesideLibrary s (windowEvent s) := by
  unfold windowEvent
  split
  · exact .ite (failSession_beside _ _ _ s) (.refl s)
  · exact .refl s

theorem endGapEvent_beside (s : State) : BesideLibrary s (endGapEvent s) := by
  unfold endGapEvent
  split
  · exact .ite (endGapExpires_beside _ s) (.refl s)
  · exact .refl s

/-! ### The time lines of jobs -/

theorem setPhase_beside (id : Nat) (ph : PlayPhase) (s : State) : BesideLibrary s (setPhase id ph s) := .withEms s _

theorem updateParticipants_beside (j : Job) (f : Channel → Channel) (s : State) :
    BesideLibrary s (updateParticipants j f s) := .withChannels s _

theorem startFrame_beside (j : Job) (p : Play) (r : Record) (start : Nat) (s : State) :
    BesideLibrary s (startFrame j p r start s) := by
  unfold startFrame
  exact withMasking_beside ((updateParticipants_beside _ _ s).trans (setPhase_beside _ _ _))

theorem frameStartEvent_beside (id : Nat) (s : State) : BesideLibrary s (frameStartEvent id s) := by
  unfold frameStartEvent
  split
  · exact .refl s
  · split
    · exact .ite (startFrame_beside _ _ _ _ s) (.refl s)
    · exact .refl s

theorem elementEndEvent_beside (id : Nat) (s : State) : BesideLibrary s (elementEndEvent id s) := by
  unfold elementEndEvent
  split
  · exact .refl s
  · split
    · dsimp only
      split
      · exact .refl s
      · exact .ite ((updateParticipants_beside _ _ s).trans (setPhase_beside _ _ _)) (.refl s)
    · exact .refl s

theorem stepEnds_beside (j : Job) (steps : List Machine.Step) (moment : Nat) (wasSend : Bool) (s : State) :
    BesideLibrary s (stepEnds j steps moment wasSend s) := by
  unfold stepEnds
  split
  · exact endJob_beside _ _ s
  · exact startStep_beside _ _ _ _ s
  · exact .ite (setPhase_beside _ _ s) (startStep_beside _ _ _ _ s)

theorem nextFrame_beside (j : Job) (r : Record) (run : FrameRun) (s : State) : BesideLibrary s (nextFrame j r run s) :=
  setPhase_beside _ _ s

theorem afterFrame_beside (j : Job) (p : Play) (r : Record) (run : FrameRun) (s : State) :
    BesideLibrary s (afterFrame j p r run s) := by
  unfold afterFrame
  split
  · exact .refl s
  · exact .ite (endJob_beside _ _ s) (nextFrame_beside _ _ _ s)
  · split
    · exact .ite (endJob_beside _ _ s) (nextFrame_beside _ _ _ s)
    · exact nextFrame_beside _ _ _ s
    · split
      · exact .ite (stepEnds_beside _ _ _ _ s) (nextFrame_beside _ _ _ s)
      · exact nextFrame_beside _ _ _ s

theorem frameEndEvent_beside (id : Nat) (s : State) : BesideLibrary s (frameEndEvent id s) := by
  unfold frameEndEvent
  split
  · exact .refl s
  · split
    · exact .ite ((((updateParticipants_beside _ _ s).trans (updateJob_beside _ _ _)).trans
        (afterFrame_beside _ _ _ _ _)).trans (examine_beside _)) (.refl s)
    · exact .refl s

theorem pauseEndEvent_beside (id : Nat) (s : State) : BesideLibrary s (pauseEndEvent id s) := by
  unfold pauseEndEvent
  split
  · exact .refl s
  · split
    · exact .ite ((stepEnds_beside _ _ _ _ s).trans (examine_beside _)) (.refl s)
    · exact .refl s

theorem sendStepStartEvent_beside (id : Nat) (s : State) : BesideLibrary s (sendStepStartEvent id s) := by
  unfold sendStepStartEvent
  split
  · exact .refl s
  · split
    · exact .ite ((startStep_beside _ _ _ _ s).trans (examine_beside _)) (.refl s)
    · exact .refl s

theorem holdDeadlineEvent_beside (id : Nat) (s : State) : BesideLibrary s (holdDeadlineEvent id s) := by
  unfold holdDeadlineEvent
  split
  · exact .refl s
  · exact .ite ((enterEnding_beside _ _ s).trans (examine_beside _)) (.refl s)

theorem pulseEdgeEvent_beside (e : Emitter) (s : State) : BesideLibrary s (pulseEdgeEvent e s) := by
  unfold pulseEdgeEvent
  split
  · exact .ite (updateChannel_beside s e _) (.refl s)
  · exact .refl s

theorem maskWindowCloseEvent_beside (e : Emitter) (s : State) : BesideLibrary s (maskWindowCloseEvent e s) := by
  unfold maskWindowCloseEvent
  split
  · exact .ite (withMasking_beside (updateChannel_beside s e _)) (.refl s)
  · exact .refl s

theorem openWindowCloseEvent_beside (e : Emitter) (s : State) : BesideLibrary s (openWindowCloseEvent e s) :=
  .ite (driveFault_beside e _ s) (.refl s)

theorem overcurrentEvent_beside (e : Emitter) (s : State) : BesideLibrary s (overcurrentEvent e s) :=
  .ite (driveFault_beside e _ s) (.refl s)

/-! ### Standby and wake -/

theorem settleStandby_beside (s : State) : BesideLibrary s (settleStandby s) := by
  unfold settleStandby
  split
  · next h =>
    exact ⟨rfl, rfl, id, by simp [enterStandby, h.1], fun _ => by simp [PortFollowsState, enterStandby, OpState.isOpen],
      rfl, rfl⟩
  · exact .refl s

theorem wakeCompletionEvent_beside (s : State) : BesideLibrary s (wakeCompletionEvent s) := by
  unfold wakeCompletionEvent
  split
  · next cause hwaking _ =>
    have hawake : BesideLibrary s
        ((s.withOpc { s.opc with state := .awake, wake := none }).withLink { s.link with state := .idle }) :=
      ⟨rfl, rfl, id, by simp [hwaking], fun _ => by simp [PortFollowsState, OpState.isOpen], rfl, rfl⟩
    exact .ite ((hawake.trans (notify_beside _ _)).trans (actOnKept_beside _)) (.refl s)
  · exact .refl s

end Sys2Proof.Machine
end

section
/-! The requests and the link's own events stay beside the library, but for STORE, ERASE, SET_CODE_FLAGS and RESET. -/

namespace Sys2Proof.Machine

/-! ### Operating Control and the Learn Unit -/

theorem returnToAwake_beside (s : State) : BesideLibrary s (returnToAwake s) := by
  unfold returnToAwake
  split
  · next h =>
    exact ⟨rfl, rfl, id, by simp [h], fun hp => by simpa [PortFollowsState, h, OpState.isOpen] using hp, rfl, rfl⟩
  · exact .refl s

theorem senseContextEnabled_beside (s : State) : BesideLibrary s (senseContextEnabled s) := setCtx_beside s .sense _

theorem applyPair_beside (s : State) (pair : Nat × Nat) : BesideLibrary s (applyPair s pair) := by
  have hparam : BesideLibrary s (s.withOpc { s.opc with params := s.opc.params.update pair.1 pair.2 }) :=
    .of_same rfl rfl rfl rfl rfl rfl rfl
  exact .ite (hparam.trans (discarding_beside .sense (fun s => setCtx_beside s .sense _) _))
    (.ite (hparam.trans (senseContextEnabled_beside _)) hparam)

theorem ownConfigure_beside (tag : Byte) (p : List Byte) (s : State) : BesideLibrary s (ownConfigure tag p s) := by
  unfold ownConfigure
  refine .ite (replyStatus_beside tag _ s) ?_
  split
  · exact reply_beside tag _ _ s
  · exact (replyStatus_beside tag _ s).trans (.foldl applyPair_beside _ _)

theorem ownReadConfig_beside (tag : Byte) (p : List Byte) (s : State) : BesideLibrary s (ownReadConfig tag p s) := by
  unfold ownReadConfig
  split
  · exact reply_beside tag _ _ s
  · exact reply_beside tag _ _ s

/-- STANDBY leaves the part outside MOUNTING, and its link not CLOSED (R184). -/
theorem ownStandby_beside (tag : Byte) {s : State} (h : s.opc.state.isOpen = true) : BesideLibrary s (ownStandby tag s) where
  lib := rfl
  index := rfl
  routes := id
  mounting := by cases hs : s.opc.state <;> simp_all [ownStandby, OpState.isOpen]
  port := fun hp => hp.trans (by rw [h]; simp [ownStandby, OpState.isOpen])
  powered := rfl
  rstnLow := rfl

theorem beginSession_beside (source : Source) (window hint : Nat) (tag : Byte) (s : State) :
    BesideLibrary s (beginSession source window hint tag s) := by
  unfold beginSession
  cases source with
  | learn => exact (BesideLibrary.withLrn s _).trans (setCtx_beside _ .learn _)
  | sense => exact .withLrn s _

theorem ownLearnStart_beside (tag : Byte) (p : List Byte) (s : State) : BesideLibrary s (ownLearnStart tag p s) := by
  unfold ownLearnStart
  split
  · exact replyStatus_beside tag _ s
  · exact .ite (.ite (replyStatus_beside tag _ s) ((replyStatus_beside tag _ s).trans (beginSession_beside _ _ _ _ _)))
      (replyStatus_beside tag _ s)

theorem ownLearnStop_beside (tag : Byte) (s : State) : BesideLibrary s (ownLearnStop tag s) := by
  unfold ownLearnStop
  split
  · exact replyStatus_beside tag _ s
  · split
    · exact (replyStatus_beside tag _ s).trans (failSession_beside _ _ _ _)
    · exact (replyStatus_beside tag _ s).trans (reduceSession_beside _ _)

theorem ownReadStaged_beside (tag : Byte) (s : State) : BesideLibrary s (ownReadStaged tag s) := by
  unfold ownReadStaged
  split
  · exact reply_beside tag _ _ s
  · exact replyStatus_beside tag _ s

/-! ### The Code Library's two readings -/

theorem ownReadCode_beside (tag : Byte) (p : List Byte) (s : State) : BesideLibrary s (ownReadCode tag p s) := by
  unfold ownReadCode
  refine .ite ?_ (replyStatus_beside tag _ s)
  split
  · exact replyStatus_beside tag _ s
  · exact reply_beside tag _ _ s

theorem ownListCodes_beside (tag : Byte) (p : List Byte) (s : State) : BesideLibrary s (ownListCodes tag p s) :=
  .ite (reply_beside tag _ _ s) (replyStatus_beside tag _ s)

/-! ### The Emission Scheduler -/

theorem admitHostJob_beside (tag : Byte) (mask : Mask) (kind : JobKind) (s : State) :
    BesideLibrary s (admitHostJob tag mask kind s) := by
  unfold admitHostJob
  split
  · exact replyStatus_beside tag _ s
  · exact ((BesideLibrary.withEms s _).trans (reply_beside tag _ _ _)).trans (examine_beside _)

theorem ownSend_beside (tag : Byte) (p : List Byte) (s : State) : BesideLibrary s (ownSend tag p s) := by
  unfold ownSend
  split
  · exact replyStatus_beside tag _ s
  · exact .ite (admitHostJob_beside tag _ _ s) (replyStatus_beside tag _ s)

theorem ownHold_beside (tag : Byte) (p : List Byte) (s : State) : BesideLibrary s (ownHold tag p s) := by
  unfold ownHold
  split
  · exact replyStatus_beside tag _ s
  · exact .ite (admitHostJob_beside tag _ _ s) (replyStatus_beside tag _ s)

theorem ownSequence_beside (tag : Byte) (p : List Byte) (s : State) : BesideLibrary s (ownSequence tag p s) := by
  unfold ownSequence
  refine .ite (replyStatus_beside tag _ s) ?_
  split
  · exact admitHostJob_beside tag _ _ s
  · exact replyStatus_beside tag _ s

theorem ownRelease_beside (tag : Byte) (p : List Byte) (s : State) : BesideLibrary s (ownRelease tag p s) := by
  unfold ownRelease
  dsimp only
  split
  · exact ((replyStatus_beside tag _ s).trans (releaseJob_beside _ _)).trans (examine_beside _)
  · exact replyStatus_beside tag _ s

theorem ownCancel_beside (tag : Byte) (p : List Byte) (s : State) : BesideLibrary s (ownCancel tag p s) := by
  unfold ownCancel
  dsimp only
  split
  · exact ((replyStatus_beside tag _ s).trans (cancelJob_beside _ _)).trans (examine_beside _)
  · exact replyStatus_beside tag _ s

theorem ownFlush_beside (tag : Byte) (p : List Byte) (s : State) : BesideLibrary s (ownFlush tag p s) := by
  unfold ownFlush
  split
  · exact replyStatus_beside tag _ s
  · exact ((reply_beside tag _ _ s).trans (.foldl (fun t id => cancelJob_beside id t) _ _)).trans (examine_beside _)

theorem ownJobStatus_beside (tag : Byte) (p : List Byte) (s : State) : BesideLibrary s (ownJobStatus tag p s) := by
  unfold ownJobStatus
  split
  · exact reply_beside tag _ _ s
  · split
    · exact reply_beside tag _ _ s
    · exact replyStatus_beside tag _ s

theorem disableEmitter_beside (tag : Byte) (e : Emitter) (s : State) : BesideLibrary s (disableEmitter tag e s) := by
  have hdisable : BesideLibrary s (examine (updateChannel (failQueued e .failedOff (replyStatus tag .ok s)) e
      fun c => { c with mode := .off })) :=
    (((replyStatus_beside tag _ s).trans (failQueued_beside e _ _)).trans (updateChannel_beside _ e _)).trans
      (examine_beside _)
  unfold disableEmitter
  split
  · exact hdisable
  · exact hdisable
  · exact replyStatus_beside tag _ s
  · exact replyStatus_beside tag _ s
  · exact replyStatus_beside tag _ s

theorem enableEmitter_beside (tag : Byte) (e : Emitter) (s : State) : BesideLibrary s (enableEmitter tag e s) := by
  unfold enableEmitter
  split
  · exact (replyStatus_beside tag _ s).trans (updateChannel_beside _ e _)
  · exact replyStatus_beside tag _ s
  · exact replyStatus_beside tag _ s

theorem clearFaultOf_beside (tag : Byte) (e : Emitter) (s : State) : BesideLibrary s (clearFaultOf tag e s) := by
  unfold clearFaultOf
  split
  · exact (replyStatus_beside tag _ s).trans (updateChannel_beside _ e _)
  · exact replyStatus_beside tag _ s

theorem setNear_beside (near : Bool) (tag : Byte) (e : Emitter) (s : State) : BesideLibrary s (setNear near tag e s) :=
  (replyStatus_beside tag _ s).trans (updateChannel_beside _ e _)

theorem ownEmitterControl_beside (tag : Byte) (p : List Byte) (s : State) :
    BesideLibrary s (ownEmitterControl tag p s) := by
  unfold ownEmitterControl
  split
  · exact replyStatus_beside tag _ s
  · split
    · exact disableEmitter_beside tag _ s
    · exact enableEmitter_beside tag _ s
    · exact clearFaultOf_beside tag _ s
    · exact setNear_beside true tag _ s
    · exact setNear_beside false tag _ s
    · exact replyStatus_beside tag _ s

/-! ### The Route Table -/

theorem ownRouteSet_beside (tag : Byte) (p : List Byte) (s : State) : BesideLibrary s (ownRouteSet tag p s) := by
  unfold ownRouteSet
  split
  · exact replyStatus_beside tag _ s
  · exact ((replyStatus_beside tag _ s).trans (routeRelease_beside _ _)).trans
      (.withRoutes _ fun h => Table.wf_set h _ _)

theorem ownRouteClear_beside (tag : Byte) (p : List Byte) (s : State) : BesideLibrary s (ownRouteClear tag p s) :=
  .ite (((replyStatus_beside tag _ s).trans (routeRelease_beside _ _)).trans (.withRoutes _ fun h => Table.wf_erase h _))
    (replyStatus_beside tag _ s)

theorem ownRouteRead_beside (tag : Byte) (p : List Byte) (s : State) : BesideLibrary s (ownRouteRead tag p s) :=
  .ite (reply_beside tag _ _ s) (replyStatus_beside tag _ s)

/-! ### The link -/

/-- A link that is not CLOSED before or after may change in everything. -/
theorem BesideLibrary.withLink_open (s : State) {l : Link} (hs : s.link.state ≠ .closed) (hl : l.state ≠ .closed) :
    BesideLibrary s (s.withLink l) where
  lib := rfl
  index := rfl
  routes := id
  mounting := Iff.rfl
  port := fun hp => by simpa [PortFollowsState, hl, hs] using hp
  powered := rfl
  rstnLow := rfl

theorem setAck_beside (acked : Bool) (s : State) : BesideLibrary s (setAck acked s) :=
  .of_same rfl rfl rfl rfl rfl rfl rfl

theorem setSent_beside (b : Byte) (s : State) : BesideLibrary s (setSent b s) := .of_same rfl rfl rfl rfl rfl rfl rfl

theorem readEndEvent_beside (s : State) : BesideLibrary s (readEndEvent s) := by
  unfold readEndEvent
  split
  · next h =>
    refine .withLink_open s (by simp [h]) ?_
    dsimp only
    split <;> simp
  · exact .refl s

theorem judgeAddress_beside (read : Bool) (s : State) : BesideLibrary s (judgeAddress read s) := by
  have hread (h : s.link.state ≠ .closed) : BesideLibrary s (setAck true (s.withLink s.link.beginRead)) :=
    (BesideLibrary.withLink_open s h (by simp [Link.beginRead])).trans (setAck_beside true _)
  unfold judgeAddress
  split
  · split
    · next h => exact (beginWake_beside .link h).trans (setAck_beside false _)
    · exact setAck_beside false s
  · next h =>
    exact .ite (setAck_beside false s) (.ite (hread (by simp [h]))
      ((BesideLibrary.withLink_open s (by simp [h]) (by simp)).trans (setAck_beside true _)))
  · next h => exact .ite (setAck_beside false s) (hread (by simp [h]))
  · exact setAck_beside false s
  · exact setAck_beside false s

theorem dataByteEvent_beside (b : Byte) (s : State) : BesideLibrary s (dataByteEvent b s) :=
  have hstored : BesideLibrary s (s.withLink { s.link with inbound := s.link.inbound ++ [b] }) := .withLink s rfl
  .ite (hstored.trans (setAck_beside true _)) (setAck_beside false s)

theorem handOff_beside (acked : Bool) (s : State) : BesideLibrary s (handOff acked s) :=
  .ite ((setAck_beside true s).trans (.withLink _ s.link.asked_state)) ((setAck_beside false s).trans (.withLink _ rfl))

theorem releasedByte_beside (acked : Bool) (s : State) : BesideLibrary s (releasedByte acked s) :=
  (setSent_beside _ s).trans (setAck_beside acked _)

theorem byteSentEvent_beside (acked : Bool) (s : State) : BesideLibrary s (byteSentEvent acked s) := by
  have hsent (b : Byte) {l : Link} (h : l.state = s.link.state) :
      BesideLibrary s (handOff acked ((setSent b s).withLink l)) :=
    ((setSent_beside b s).trans (.withLink _ h)).trans (handOff_beside acked _)
  unfold byteSentEvent
  refine .ite ?_ (releasedByte_beside acked s)
  split
  · exact .ite (hsent _ (by rfl)) (.refl s)
  · exact .ite (hsent _ (by rfl)) (.refl s)
  · exact .refl s

theorem linkReleaseEvent_beside (lowFor : Nat) (s : State) : BesideLibrary s (linkReleaseEvent lowFor s) := by
  have hpins : BesideLibrary s (s.withPins { s.pins with lrelLowUntil := s.now + lowFor }) :=
    .of_same rfl rfl rfl rfl rfl rfl rfl
  unfold linkReleaseEvent
  dsimp only
  split
  · exact hpins
  · next h => exact hpins.trans (.withLink_open _ h (by simp))

end Sys2Proof.Machine
end

section
/-! The places of the library segments (R17): the invariant of the library alone, and the moves of segments between the chains,
the free set and the leftovers. -/

namespace Sys2Proof.Machine

/-- Every place a segment can have, one after another (R17, R36). -/
def places (l : Lib) : List Nat := validSegments l ++ l.free ++ opChains l ++ toReclaim l

/-- An operation has the chains of its kind and phase, the segments it has not yet programmed being erased (R18). -/
def LibOp.Placed (op : LibOp) (pool : List (Nat × Segment)) : Prop :=
  (op.kind ≠ .store → op.newChain = []) ∧
    match op.phase with
    | .programming n m =>
      op.kind = .store ∧ op.oldChain = [] ∧ 1 ≤ n ∧ n ≤ m ∧ op.newChain.length = m ∧
        ∀ k ∈ op.newChain.drop (n - 1), Table.get pool k = none
    | .committing => op.oldChain = []
    | .releasing _ _ => op.newChain ++ op.oldChain ≠ []

/-- `SegmentsPlaced` of a library alone. -/
structure Lib.Placed (l : Lib) : Prop where
  nodup : (places l).Nodup
  bound : ∀ n ∈ places l, n < segmentCount
  covers : sorted l → ∀ n, n < segmentCount → n ∈ places l
  unsorted : ¬sorted l → l.free = []
  ascends : l.free.Pairwise (· < ·)
  erased : ∀ n ∈ l.free, Table.get l.pool n = none
  op : ∀ op, l.op = some op → op.Placed l.pool

theorem segmentsPlaced_iff {s : State} : SegmentsPlaced s ↔ s.lib.Placed :=
  ⟨fun ⟨hnodup, hbound, hcovers, hunsorted, ⟨hascends, herased⟩, hop⟩ =>
      ⟨hnodup, hbound, hcovers, hunsorted, hascends, herased, hop⟩,
    fun h => ⟨h.nodup, h.bound, h.covers, h.unsorted, ⟨h.ascends, h.erased⟩, h.op⟩⟩

theorem LibOp.Placed.programming {op : LibOp} {pool : List (Nat × Segment)} {n m : Nat} (h : op.Placed pool)
    (hph : op.phase = .programming n m) :
    op.kind = .store ∧ op.oldChain = [] ∧ 1 ≤ n ∧ n ≤ m ∧ op.newChain.length = m ∧
      ∀ k ∈ op.newChain.drop (n - 1), Table.get pool k = none := by
  obtain ⟨-, h⟩ := h
  rwa [hph] at h

theorem LibOp.Placed.committing {op : LibOp} {pool : List (Nat × Segment)} (h : op.Placed pool)
    (hph : op.phase = .committing) : op.oldChain = [] := by
  obtain ⟨-, h⟩ := h
  rwa [hph] at h

/-- The segment in progress stands at the head of those not yet programmed. -/
theorem LibOp.drop_programmed {op : LibOp} {n m : Nat} (h1 : 1 ≤ n) (hn : n ≤ m) (hlen : op.newChain.length = m) :
    op.newChain.drop (n - 1) = op.newChain.getD (n - 1) 0 :: op.newChain.drop n := by
  have hlt : n - 1 < op.newChain.length := by omega
  rw [List.drop_eq_getElem_cons hlt, Nat.sub_add_cancel h1, List.getD_eq_getElem _ _ hlt]

section
variable {l l' : Lib}

theorem opChains_some {op : LibOp} (h : l.op = some op) : opChains l = op.newChain ++ op.oldChain := by
  simp [opChains, h]

theorem opChains_none (h : l.op = none) : opChains l = [] := by
  simp [opChains, h]

theorem toReclaim_mounted (h : l.mount = none) : toReclaim l = [] := by
  simp [toReclaim, h]

theorem sorted_mounted (h : l.mount = none) : sorted l := .inl h

/-- With mount ended, a segment is in a VALID chain, free, or in a chain of the operation in flight. -/
theorem places_mounted (h : l.mount = none) : places l = validSegments l ++ l.free ++ opChains l := by
  rw [places, toReclaim_mounted h, List.append_nil]

/-- A segment that an operation or a reclaim works on is in no VALID chain and not free. -/
theorem Lib.Placed.apart (h : l.Placed) {n : Nat} (hn : n ∈ opChains l ++ toReclaim l) :
    n ∉ validSegments l ∧ n ∉ l.free := by
  have hnodup := h.nodup
  rw [places, List.append_assoc] at hnodup
  have hdisjoint := List.disjoint_of_nodup_append hnodup
  exact ⟨fun hv => hdisjoint (List.mem_append_left _ hv) hn, fun hf => hdisjoint (List.mem_append_right _ hf) hn⟩

/-- Segments that only change places stay placed. -/
theorem Lib.Placed.moved (h : l.Placed) (hs : sorted l) (hs' : sorted l') (hperm : (places l').Perm (places l))
    (hascends : l'.free.Pairwise (· < ·)) (herased : ∀ n ∈ l'.free, Table.get l'.pool n = none)
    (hop : ∀ op, l'.op = some op → op.Placed l'.pool) : l'.Placed where
  nodup := hperm.nodup_iff.2 h.nodup
  bound n hn := h.bound n (hperm.mem_iff.1 hn)
  covers _ n hn := hperm.mem_iff.2 (h.covers hs n hn)
  unsorted hu := absurd hs' hu
  ascends := hascends
  erased := herased
  op := hop

/-- A segment erased at the head of those that an operation or a reclaim works on joins the free set (R23, R25, R36). -/
theorem Lib.Placed.eraseSegment (h : l.Placed) (hs : sorted l) (hs' : sorted l') {seg : Nat}
    (hwf : Table.wf l.pool = true) (hdir : l'.directory = l.directory) (hpool : l'.pool = Table.erase l.pool seg)
    (hfree : l'.free = insertAscending seg l.free)
    (hwork : opChains l ++ toReclaim l = seg :: (opChains l' ++ toReclaim l'))
    (hop : ∀ op, l'.op = some op → op.Placed l'.pool) : l'.Placed := by
  have hseg : seg ∈ opChains l ++ toReclaim l := hwork ▸ List.mem_cons_self
  obtain ⟨-, hnotfree⟩ := h.apart hseg
  refine h.moved hs hs' ?_ (hfree ▸ insertAscending_pairwise h.ascends) (fun n hn => ?_) hop
  · rw [places, places, List.append_assoc, List.append_assoc _ (opChains l), hwork, hfree, validSegments_eq, hdir]
    rw [List.append_assoc, List.append_assoc]
    refine List.Perm.append_left _ ?_
    exact ((insertAscending_perm hnotfree).append_right _).trans List.perm_middle.symm
  · rw [hpool]
    rw [hfree] at hn
    by_cases hns : n = seg
    · rw [hns]
      exact Table.get_erase_same hwf seg
    · rw [Table.get_erase_other _ hns]
      exact h.erased n ((mem_insertAscending.1 hn).resolve_left hns)

/-- A library cut back to its mount has its VALID chains alone (R36). -/
theorem Lib.Placed.unsorted_of_chains (hnodup : (validSegments l').Nodup)
    (hbound : ∀ n ∈ validSegments l', n < segmentCount) (hfree : l'.free = []) (hop : l'.op = none) (hs : ¬sorted l') :
    l'.Placed := by
  have hreclaim : toReclaim l' = [] := by
    unfold toReclaim
    split
    · next hm => exact absurd (.inr ⟨_, _, _, _, hm⟩) hs
    · rfl
  have hplaces : places l' = validSegments l' := by
    simp [places, hfree, opChains_none hop, hreclaim]
  exact ⟨hplaces ▸ hnodup, hplaces ▸ hbound, fun h => absurd h hs, fun _ => hfree, by simp [hfree], by simp [hfree],
    by simp [hop]⟩

end

/-! ### The sorting of the segments at the end of the repairs (R36) -/

section
variable (l : Lib)

theorem mem_erasedSegments {n : Nat} :
    n ∈ erasedSegments l ↔ n < segmentCount ∧ Table.get l.pool n = none ∧ n ∉ validSegments l := by
  simp [erasedSegments]

theorem mem_leftovers {n : Nat} :
    n ∈ leftovers l ↔ Table.get l.pool n ≠ none ∧ n < segmentCount ∧ n ∉ validSegments l := by
  rw [Ne, Table.get_eq_none_iff, not_not]
  simp [leftovers]

theorem erasedSegments_pairwise : (erasedSegments l).Pairwise (· < ·) :=
  List.Pairwise.filter _ List.pairwise_lt_range

theorem leftovers_nodup (h : Table.wf l.pool = true) : (leftovers l).Nodup := (Table.nodup_keys h).filter _

/-- The erased segments free and the leftovers to be reclaimed, every segment has its one place. -/
theorem sorted_placed {l l' : Lib} (hwf : Table.wf l.pool = true) (hnodup : (validSegments l).Nodup)
    (hbound : ∀ n ∈ validSegments l, n < segmentCount) (hdir : l'.directory = l.directory) (hpool : l'.pool = l.pool)
    (hfree : l'.free = erasedSegments l) (hop : l'.op = none) (hs : sorted l') (hreclaim : toReclaim l' = leftovers l) :
    l'.Placed := by
  have hplaces : places l' = validSegments l ++ erasedSegments l ++ leftovers l := by
    rw [places, opChains_none hop, List.append_nil, hfree, hreclaim, validSegments_eq, hdir]
    rfl
  refine ⟨?_, ?_, fun _ n hn => ?_, fun h => absurd hs h, hfree ▸ erasedSegments_pairwise l, ?_, by simp [hop]⟩
  · rw [hplaces, List.append_assoc]
    have herased : (erasedSegments l).Nodup := (erasedSegments_pairwise l).imp fun h => h.ne
    have hapart : (erasedSegments l).Disjoint (leftovers l) := fun n he hl =>
      ((mem_leftovers l).1 hl).1 ((mem_erasedSegments l).1 he).2.1
    refine hnodup.append (herased.append (leftovers_nodup l hwf) hapart) fun n hv hr => ?_
    rcases List.mem_append.1 hr with he | hl
    · exact ((mem_erasedSegments l).1 he).2.2 hv
    · exact ((mem_leftovers l).1 hl).2.2 hv
  · intro n hn
    rw [hplaces, List.append_assoc] at hn
    rcases List.mem_append.1 hn with hv | hr
    · exact hbound n hv
    · rcases List.mem_append.1 hr with he | hl
      · exact ((mem_erasedSegments l).1 he).1
      · exact ((mem_leftovers l).1 hl).2.1
  · rw [hplaces, List.mem_append, List.mem_append, mem_erasedSegments, mem_leftovers]
    by_cases hv : n ∈ validSegments l
    · simp [hv]
    · by_cases hp : Table.get l.pool n = none
      · simp [hv, hp, hn]
      · simp [hv, hp, hn]
  · intro n hn
    rw [hpool]
    exact ((mem_erasedSegments l).1 (hfree ▸ hn)).2.1

end

end Sys2Proof.Machine
end

section
/-! What each operation of the library keeps: the tables canonical, the segments in their places, the mount in step with the
operating state, and the index true to the directory (R15 to R17, R80, R182). -/

namespace Sys2Proof.Machine

/-- The invariants that a step of the library rests on, taken together. -/
structure LibrarySound (s : State) : Prop where
  tables : TablesCanonical s
  port : PortFollowsState s
  mount : MountFollowsState s
  placed : s.lib.Placed

/-- From `s` to `t` the tables stay canonical, and a sound library stays sound, with its index true to the directory. -/
structure KeepsLibrary (s t : State) : Prop where
  tables : TablesCanonical s → TablesCanonical t
  sound : LibrarySound s → LibrarySound t
  index : LibrarySound s → IndexFollowsDirectory s → IndexFollowsDirectory t

theorem KeepsLibrary.refl (s : State) : KeepsLibrary s s := ⟨id, id, fun _ => id⟩

theorem KeepsLibrary.trans {s t u : State} (h : KeepsLibrary s t) (k : KeepsLibrary t u) : KeepsLibrary s u :=
  ⟨k.tables ∘ h.tables, k.sound ∘ h.sound, fun hs => k.index (h.sound hs) ∘ h.index hs⟩

theorem KeepsLibrary.ite {s t u : State} {c : Prop} [Decidable c] (h : KeepsLibrary s t) (k : KeepsLibrary s u) :
    KeepsLibrary s (if c then t else u) := by
  split
  · exact h
  · exact k

theorem BesideLibrary.tablesCanonical {s t : State} (h : BesideLibrary s t) (hs : TablesCanonical s) :
    TablesCanonical t := by
  obtain ⟨hdir, hpool, hindex, hroutes⟩ := hs
  exact ⟨h.lib ▸ hdir, h.lib ▸ hpool, h.index ▸ hindex, h.routes hroutes⟩

theorem BesideLibrary.librarySound {s t : State} (h : BesideLibrary s t) (hs : LibrarySound s) : LibrarySound t where
  tables := h.tablesCanonical hs.tables
  port := h.port hs.port
  mount := by
    have hmount := hs.mount
    unfold MountFollowsState at hmount ⊢
    rwa [h.lib, Ne, h.mounting, h.powered, h.rstnLow]
  placed := h.lib ▸ hs.placed

theorem BesideLibrary.keeps {s t : State} (h : BesideLibrary s t) : KeepsLibrary s t where
  tables := h.tablesCanonical
  sound := h.librarySound
  index _ hi := by
    unfold IndexFollowsDirectory at hi ⊢
    rwa [h.lib, h.index]

/-! ### What the invariants say of a state -/

section
variable {s : State}

theorem LibrarySound.mounted_of_op {op : LibOp} (h : LibrarySound s) (hop : s.lib.op = some op) :
    s.lib.mount = none := by
  obtain ⟨-, -, hidle⟩ := h.mount
  by_contra hm
  simp [hidle hm] at hop

theorem LibrarySound.mounted_of_link (h : LibrarySound s) (hl : s.link.state ≠ .closed) : s.lib.mount = none := by
  obtain ⟨hmount, -, -⟩ := h.mount
  rw [hmount]
  intro hm
  exact hl (h.port.2 (by simp [hm, OpState.isOpen]))

theorem LibrarySound.isOpen_of_link (h : LibrarySound s) (hl : s.link.state ≠ .closed) : s.opc.state.isOpen = true := by
  by_contra ho
  exact hl (h.port.2 (by simpa using ho))

/-- A mount past its begin, or ended, has the supply present and RSTN high (R182). -/
theorem LibrarySound.supplied (h : LibrarySound s) (hm : ∀ n k, s.lib.mount ≠ some ⟨.notBegun, n, k⟩) :
    s.pins.powered = true ∧ s.pins.rstnLow = false := by
  obtain ⟨-, hdown, -⟩ := h.mount
  by_contra hpins
  obtain ⟨n, k, hn⟩ := hdown (by cases hp : s.pins.powered <;> cases hr : s.pins.rstnLow <;> simp_all)
  exact hm n k hn

/-- With mount ended, the index lists what the directory has to be indexed (R80, R81). -/
theorem indexFollows_iff_mounted (hm : s.lib.mount = none) :
    IndexFollowsDirectory s ↔ ∀ slot, Table.get s.rcg.index slot = (Table.get s.lib.directory slot).bind (indexed s.lib) := by
  unfold IndexFollowsDirectory
  rw [if_pos hm]
  refine forall_congr' fun slot => ?_
  cases Table.get s.lib.directory slot <;> rfl

theorem indexFollows_iff_mounting (hm : s.lib.mount ≠ none) : IndexFollowsDirectory s ↔ s.rcg.index = [] := by
  unfold IndexFollowsDirectory
  rw [if_neg hm]

end

theorem indexed_congr {l l' : Lib} {d : DirEntry} (h : ∀ n ∈ d.chain, Table.get l'.pool n = Table.get l.pool n) :
    indexed l' d = indexed l d := by
  unfold indexed
  rw [chainBytes_congr h]

/-! ### Operations on the pool and the free set (R21 to R25) -/

/-- With mount ended, an operation that leaves the directory and the segments of its chains as they are keeps the library. -/
theorem KeepsLibrary.withLib {s : State} {l : Lib} (hmounted : LibrarySound s → s.lib.mount = none)
    (hdir : l.directory = s.lib.directory) (hmount : l.mount = s.lib.mount)
    (hwf : Table.wf s.lib.pool = true → Table.wf l.pool = true) (hplaced : LibrarySound s → l.Placed)
    (hvalid : LibrarySound s → ∀ n ∈ validSegments s.lib, Table.get l.pool n = Table.get s.lib.pool n) :
    KeepsLibrary s (s.withLib l) := by
  have htables : TablesCanonical s → TablesCanonical (s.withLib l) := fun ⟨hd, hp, hi, hr⟩ =>
    ⟨(congrArg Table.wf hdir).trans hd, hwf hp, hi, hr⟩
  refine ⟨htables, fun h => ⟨htables h.tables, h.port, ?_, hplaced h⟩, fun h hi => ?_⟩
  · obtain ⟨hstate, hdown, -⟩ := h.mount
    exact ⟨by simpa [hmount] using hstate, by simpa [hmount] using hdown, fun hm => absurd (hmount.trans (hmounted h)) hm⟩
  · rw [indexFollows_iff_mounted (hmounted h)] at hi
    rw [indexFollows_iff_mounted (hmount.trans (hmounted h))]
    intro slot
    rw [State.withLib_rcg, State.withLib_lib, hdir, hi slot]
    cases he : Table.get s.lib.directory slot with
    | none => rfl
    | some d => exact (indexed_congr fun n hn => hvalid h n (chain_subset_chainSegments he hn)).symm

section
variable {s : State} {op : LibOp} {n m : Nat}

/-- What holds of the segment in progress of a PROGRAMMING operation. -/
theorem LibrarySound.programming (h : LibrarySound s) (hop : s.lib.op = some op) (hph : op.phase = .programming n m) :
    op.kind = .store ∧ op.oldChain = [] ∧ 1 ≤ n ∧ n ≤ m ∧ op.newChain.length = m ∧
      (∀ k ∈ op.newChain.drop n, Table.get s.lib.pool k = none) ∧ op.newChain.getD (n - 1) 0 ∉ op.newChain.drop n ∧
      op.newChain.getD (n - 1) 0 ∈ opChains s.lib := by
  obtain ⟨hkind, hold, h1, hnm, hlen, herased⟩ := (h.placed.op op hop).programming hph
  have hchains : opChains s.lib = op.newChain := by rw [opChains_some hop, hold, List.append_nil]
  have hnodup : op.newChain.Nodup := by
    have hplaces := h.placed.nodup
    rw [places_mounted (h.mounted_of_op hop), hchains] at hplaces
    exact hplaces.of_append_right
  have hdrop := op.drop_programmed h1 hnm hlen
  have hrest : (op.newChain.getD (n - 1) 0 :: op.newChain.drop n).Nodup := hdrop ▸ hnodup.sublist (List.drop_sublist ..)
  refine ⟨hkind, hold, h1, hnm, hlen, fun k hk => herased k ?_, (List.nodup_cons.1 hrest).1, ?_⟩
  · exact hdrop ▸ List.mem_cons_of_mem _ hk
  · rw [hchains]
    exact List.mem_of_mem_drop (hdrop ▸ List.mem_cons_self)

/-- The segment in progress is written, and neither the free set nor a VALID chain holds it. -/
theorem LibrarySound.get_set_programmed (h : LibrarySound s) (hop : s.lib.op = some op) (hph : op.phase = .programming n m)
    (x : Segment) {k : Nat} (hk : k ∈ validSegments s.lib ∨ k ∈ s.lib.free ∨ k ∈ op.newChain.drop n) :
    Table.get (Table.set s.lib.pool (op.newChain.getD (n - 1) 0) x) k = Table.get s.lib.pool k := by
  obtain ⟨-, -, -, -, -, -, hnotrest, hmem⟩ := h.programming hop hph
  obtain ⟨hnotvalid, hnotfree⟩ := h.placed.apart (List.mem_append_left _ hmem)
  refine Table.get_set_other _ _ ?_
  rintro rfl
  rcases hk with hv | hf | hr
  · exact hnotvalid hv
  · exact hnotfree hf
  · exact hnotrest hr

/-- A verify that agrees keeps every segment where it is (R22). -/
theorem segmentAgrees_keeps (hop : s.lib.op = some op) (hph : op.phase = .programming n m) :
    KeepsLibrary s (segmentAgrees op n m s) := by
  refine .withLib (fun h => h.mounted_of_op hop) rfl rfl (fun hwf => Table.wf_set hwf _ _) (fun h => ?_)
    fun h k hk => h.get_set_programmed hop hph _ (.inl hk)
  obtain ⟨hkind, hold, h1, hnm, hlen, herased, -, -⟩ := h.programming hop hph
  have hm := h.mounted_of_op hop
  refine h.placed.moved (sorted_mounted hm) (sorted_mounted hm) ?_ h.placed.ascends (fun k hk => ?_) ?_
  · rw [places_mounted hm, places_mounted (by exact hm), opChains_some hop]
    exact .refl _
  · exact (h.get_set_programmed hop hph _ (.inr (.inl hk))).trans (h.placed.erased k hk)
  · rintro _ ⟨rfl⟩
    refine ⟨fun hk => absurd hkind hk, ?_⟩
    by_cases hlast : n < m
    · simp only [hlast, if_true]
      exact ⟨hkind, hold, by omega, hlast, hlen, fun k hk =>
        (h.get_set_programmed hop hph _ (.inr (.inr hk))).trans (herased k hk)⟩
    · simp only [hlast, if_false]
      exact hold

/-- A verify that disagrees frees the segments never programmed (R23). -/
theorem segmentDisagrees_keeps (hop : s.lib.op = some op) (hph : op.phase = .programming n m) :
    KeepsLibrary s (segmentDisagrees op n s) := by
  refine .withLib (fun h => h.mounted_of_op hop) rfl rfl (fun hwf => Table.wf_set hwf _ _) (fun h => ?_)
    fun h k hk => h.get_set_programmed hop hph _ (.inl hk)
  obtain ⟨hkind, hold, h1, hnm, hlen, herased, -, -⟩ := h.programming hop hph
  have hm := h.mounted_of_op hop
  have hchains : opChains s.lib = op.newChain := by rw [opChains_some hop, hold, List.append_nil]
  have hfreed : (freeSegments s.lib.free (op.newChain.drop n)).Perm (op.newChain.drop n ++ s.lib.free) := by
    have hplaces := h.placed.nodup
    rw [places_mounted hm, hchains, List.append_assoc] at hplaces
    exact freeSegments_perm ((List.perm_append_comm.nodup_iff.1 hplaces.of_append_right).sublist
      ((List.drop_sublist ..).append_right _))
  refine h.placed.moved (sorted_mounted hm) (sorted_mounted hm) ?_ (freeSegments_pairwise h.placed.ascends _)
    (fun k hk => ?_) ?_
  · rw [places_mounted hm, places_mounted (by exact hm), hchains]
    have hsplit : (validSegments s.lib ++ s.lib.free ++ op.newChain).Perm
        (validSegments s.lib ++ (op.newChain.drop n ++ s.lib.free) ++ op.newChain.take n) := by
      conv_lhs => rw [← List.take_append_drop n op.newChain]
      rw [List.perm_iff_count]
      intro k
      simp only [List.count_append]
      omega
    rw [opChains_some rfl, hold, List.append_nil]
    exact ((hfreed.append_left _).append_right _).trans hsplit.symm
  · rcases mem_freeSegments.1 hk with hr | hf
    · exact (h.get_set_programmed hop hph _ (.inr (.inr hr))).trans (herased k hr)
    · exact (h.get_set_programmed hop hph _ (.inr (.inl hf))).trans (h.placed.erased k hf)
  · rintro _ ⟨rfl⟩
    refine ⟨fun hk => absurd hkind hk, ?_⟩
    have hlen' : 0 < (op.newChain.take n ++ op.oldChain).length := by
      rw [List.length_append, List.length_take]
      omega
    exact List.ne_nil_of_length_pos hlen'

/-- A released segment is erased into the free set; what is left of the chains goes on, or the operation ends (R23, R25). -/
theorem releaseNext_keeps {op' : LibOp} {seg : Nat} (fault : Bool) (hop : s.lib.op = some op)
    (hchain : op.newChain ++ op.oldChain = seg :: (op'.newChain ++ op'.oldChain)) (hkind : op'.kind = op.kind)
    (hnew : op.newChain = [] → op'.newChain = []) :
    KeepsLibrary s (releaseNext op' n m fault (eraseSegment seg s)) := by
  have herase (o : Option LibOp) (hrest : opChains { s.lib with op := o } = op'.newChain ++ op'.oldChain)
      (ho : LibrarySound s → ∀ x, o = some x → x.Placed (Table.erase s.lib.pool seg)) :
      KeepsLibrary s (setOp o (eraseSegment seg s)) := by
    refine .withLib (fun h => h.mounted_of_op hop) rfl rfl (fun hwf => Table.wf_erase hwf _) (fun h => ?_) fun h k hk => ?_
    · have hm := h.mounted_of_op hop
      obtain ⟨-, hpool, -, -⟩ := h.tables
      refine h.placed.eraseSegment (sorted_mounted hm) (sorted_mounted hm) hpool rfl rfl rfl ?_ (ho h)
      rw [toReclaim_mounted hm, toReclaim_mounted (by exact hm), opChains_some hop, hchain]
      exact congrArg (fun l => seg :: (l ++ [])) hrest.symm
    · have hseg : seg ∈ opChains s.lib ++ toReclaim s.lib :=
        List.mem_append_left _ (by rw [opChains_some hop, hchain]; exact List.mem_cons_self)
      exact Table.get_erase_other _ fun heq => (h.placed.apart hseg).1 (heq ▸ hk)
  unfold releaseNext
  split
  · next hempty =>
    obtain ⟨hnil, hnil'⟩ := hempty
    refine (herase none ?_ (by simp)).trans (notify_beside _ _).keeps
    rw [hnil, hnil']
    rfl
  · next hmore =>
    refine herase _ (by rfl) ?_
    rintro h _ ⟨rfl⟩
    obtain ⟨hstore, -⟩ := h.placed.op op hop
    exact ⟨fun hk => hnew (hstore (hkind ▸ hk)), fun hnil => hmore (List.append_eq_nil_iff.1 hnil)⟩

end

theorem segmentVerifyEvent_keeps (agrees : Bool) (s : State) : KeepsLibrary s (segmentVerifyEvent agrees s) := by
  unfold segmentVerifyEvent
  split
  · exact .refl s
  · next op hop =>
    split
    · next n m hph => exact .ite (.ite (segmentAgrees_keeps hop hph) (segmentDisagrees_keeps hop hph)) (.refl s)
    · exact .refl s

theorem segmentErasedEvent_keeps (s : State) : KeepsLibrary s (segmentErasedEvent s) := by
  unfold segmentErasedEvent
  split
  · exact .refl s
  · next op hop =>
    split
    · next n m hph =>
      refine .ite ?_ (.refl s)
      split
      · next seg rest hnew => exact releaseNext_keeps true hop (by rw [hnew]; rfl) rfl (by simp [hnew])
      · next seg rest hnew hold => exact releaseNext_keeps false hop (by rw [hnew, hold]; rfl) rfl id
      · exact .refl s
    · exact .refl s

/-! ### The commit (R24 to R27, R32, R82) -/

/-- News leaves every other slot's index entry alone. -/
theorem get_indexAfter_other (index : List (Nat × IndexEntry)) (kind : NewsKind) {slot k : Nat}
    (new : Option (Record × SlotFlags)) (h : k ≠ slot) : Table.get (indexAfter index kind slot new) k = Table.get index k := by
  unfold indexAfter
  split
  · exact Table.get_erase_other _ h
  · split
    · split
      · exact Table.get_set_other _ _ h
      · exact Table.get_set_other _ _ h
    · exact Table.get_erase_other _ h

theorem wf_indexAfter {index : List (Nat × IndexEntry)} (hwf : Table.wf index = true) (kind : NewsKind) (slot : Nat)
    (new : Option (Record × SlotFlags)) : Table.wf (indexAfter index kind slot new) = true := by
  unfold indexAfter
  split
  · exact Table.wf_erase hwf _
  · split
    · split
      · exact Table.wf_set hwf _ _
      · exact Table.wf_set hwf _ _
    · exact Table.wf_erase hwf _

/-- News of a code with RECOGNIZE puts its committed lists and flags in (R82). -/
theorem get_indexAfter_recognize (index : List (Nat × IndexEntry)) (kind : NewsKind) (slot : Nat) (r : Record)
    {f : SlotFlags} (hf : f.recognize = true)
    (hflags : kind = .flags → ∀ e, Table.get index slot = some e → ∃ f', e = indexEntry r f') :
    Table.get (indexAfter index kind slot (some (r, f))) slot = some (indexEntry r f) := by
  unfold indexAfter
  simp only [hf, if_true]
  split
  · next e he =>
    obtain ⟨f', rfl⟩ := hflags rfl e he
    exact Table.get_set_same ..
  · exact Table.get_set_same ..

/-- News of a code without RECOGNIZE takes its entry out (R82). -/
theorem get_indexAfter_unrecognized {index : List (Nat × IndexEntry)} (hwf : Table.wf index = true) (kind : NewsKind)
    (slot : Nat) (r : Record) {f : SlotFlags} (hf : f.recognize = false) :
    Table.get (indexAfter index kind slot (some (r, f))) slot = none := by
  simp [indexAfter, hf, Table.get_erase_same hwf]

theorem get_indexAfter_empty {index : List (Nat × IndexEntry)} (hwf : Table.wf index = true) (kind : NewsKind)
    (slot : Nat) : Table.get (indexAfter index kind slot none) slot = none := Table.get_erase_same hwf slot

/-- After the index, news acts on the press alone, and by it on routes and jobs (R93). -/
theorem commitNews_beside (kind : NewsKind) (slot : Nat) (new : Option (Record × SlotFlags)) (s : State) :
    BesideLibrary (s.withRcg { s.rcg with index := indexAfter s.rcg.index kind slot new }) (commitNews kind slot new s) := by
  unfold commitNews
  dsimp only
  split
  · exact .refl _
  · refine .ite (.refl _) ?_
    split
    · exact .ite (setPress_beside _ _) (endPress_beside _ _ _)
    · exact endPress_beside _ _ _

/-- What the library does after the commit of an operation on a slot that had a chain: the old chain of a STORE or ERASE is to
be released, and without one the operation is over (R25 to R28). -/
def LibOp.afterCommit (op : LibOp) (old : List Nat) : Option LibOp :=
  if op.kind = .setFlags ∨ old = [] then none
  else some { op with newChain := [], oldChain := old, phase := .releasing 1 old.length, due := op.due + eraseTime }

/-- The state with the entry of an operation replaced, the index told of it, and the operation as it goes on. -/
def committed (op : LibOp) (s : State) : State :=
  let d := setDirectory (op.commits s.lib.directory) s
  setOp (op.afterCommit (chainOf s op.slot))
    (d.withRcg { s.rcg with index := indexAfter s.rcg.index op.kind.news op.slot (committedNews d op.slot) })

theorem BesideLibrary.setOp {s t : State} (h : BesideLibrary s t) (o : Option LibOp) :
    BesideLibrary (setOp o s) (setOp o t) :=
  ⟨by simp [Machine.setOp, h.lib], h.index, h.routes, h.mounting, h.port, h.powered, h.rstnLow⟩

/-- A commit that is due comes to the committed state, and beyond the library to the press and the notification. -/
theorem commitEvent_beside {s : State} {op : LibOp} (hop : s.lib.op = some op)
    (hdue : op.phase = .committing ∧ op.due ≤ s.now) : BesideLibrary (committed op s) (commitEvent s) := by
  have hnews (o : Option LibOp) := (commitNews_beside op.kind.news op.slot
    (committedNews (setDirectory (op.commits s.lib.directory) s) op.slot)
    (setDirectory (op.commits s.lib.directory) s)).setOp o
  have hrelease (hk : op.kind ≠ .setFlags) : BesideLibrary (committed op s)
      (releaseOldChain op (chainOf s op.slot) (commitNews op.kind.news op.slot
        (committedNews (setDirectory (op.commits s.lib.directory) s) op.slot)
        (setDirectory (op.commits s.lib.directory) s))) := by
    unfold releaseOldChain committed LibOp.afterCommit
    by_cases hold : chainOf s op.slot = []
    · rw [if_pos hold, if_pos (.inr hold)]
      exact (hnews none).trans (notify_beside _ _)
    · rw [if_neg hold, if_neg (by simp [hk, hold])]
      exact hnews _
  simp only [commitEvent, hop, if_pos hdue]
  split
  · next hk =>
    rw [committed, LibOp.afterCommit, if_pos (.inl hk)]
    exact (hnews none).trans (notify_beside _ _)
  · next hk => exact hrelease (by simp [hk])
  · next hk => exact hrelease (by simp [hk])

end Sys2Proof.Machine
end

section
/-! What a commit, a cut, and each stage of mount keep (R24 to R27, R33 to R37). -/

namespace Sys2Proof.Machine

/-! ### The commit -/

section
variable {s : State} {op : LibOp}

theorem LibOp.afterCommit_setFlags (hkind : op.kind = .setFlags) (old : List Nat) : op.afterCommit old = none :=
  if_pos (.inl hkind)

/-- The chains of the operation after its commit are the old chain of its slot. -/
theorem opChains_afterCommit (hkind : op.kind ≠ .setFlags) {l : Lib} {old : List Nat} (h : l.op = op.afterCommit old) :
    opChains l = old := by
  by_cases hold : old = []
  · rw [LibOp.afterCommit, if_pos (.inr hold)] at h
    rw [opChains_none h, hold]
  · rw [LibOp.afterCommit, if_neg (by simp [hkind, hold])] at h
    rw [opChains_some h]
    rfl

theorem LibOp.placed_afterCommit {old : List Nat} {x : LibOp} (h : op.afterCommit old = some x)
    (pool : List (Nat × Segment)) : x.Placed pool := by
  unfold LibOp.afterCommit at h
  split at h
  · simp at h
  · next hmore =>
    obtain rfl := Option.some.inj h
    exact ⟨fun _ => rfl, fun hnil => hmore (.inr hnil)⟩

theorem committed_placed (h : LibrarySound s) (hop : s.lib.op = some op) (hph : op.phase = .committing) :
    (committed op s).lib.Placed := by
  have hm := h.mounted_of_op hop
  have hm' : (committed op s).lib.mount = none := hm
  obtain ⟨hwf, -, -, -⟩ := h.tables
  obtain ⟨hnew, -⟩ := h.placed.op op hop
  have hold := (h.placed.op op hop).committing hph
  refine h.placed.moved (sorted_mounted hm) (sorted_mounted hm') ?_ h.placed.ascends h.placed.erased
    fun x hx => LibOp.placed_afterCommit hx _
  rw [places_mounted hm, places_mounted hm', opChains_some hop, hold, List.append_nil]
  have hperm : (chainSegments (op.commits s.lib.directory) ++ opChains (committed op s).lib).Perm
      (chainSegments s.lib.directory ++ op.newChain) := by
    by_cases hkind : op.kind = .setFlags
    · rw [opChains_none (LibOp.afterCommit_setFlags hkind _), hnew (by simp [hkind]), List.append_nil, List.append_nil]
      exact chainSegments_commits_flags hwf hkind
    · rw [opChains_afterCommit hkind rfl]
      exact chainSegments_commits_perm hwf hnew hkind
  have hmid (a b c : List Nat) : (a ++ b ++ c).Perm (b ++ (a ++ c)) := by
    rw [← List.append_assoc]
    exact List.perm_append_comm.append_right c
  exact (hmid _ _ _).trans ((hperm.append_left _).trans (hmid _ _ _).symm)

/-- News of a commit makes the index follow the new entry (R82). -/
theorem committed_index (h : LibrarySound s) (hop : s.lib.op = some op) (hi : IndexFollowsDirectory s) :
    IndexFollowsDirectory (committed op s) := by
  have hm := h.mounted_of_op hop
  obtain ⟨hwf, -, hwfi, -⟩ := h.tables
  rw [indexFollows_iff_mounted hm] at hi
  rw [indexFollows_iff_mounted (by exact hm)]
  intro slot
  change Table.get (indexAfter s.rcg.index op.kind.news op.slot
    ((Table.get (op.commits s.lib.directory) op.slot).map fun e => (Record.ofWire (chainBytes s.lib e), e.flags))) slot =
      (Table.get (op.commits s.lib.directory) slot).bind (indexed s.lib)
  by_cases hslot : slot = op.slot
  · subst hslot
    cases he : Table.get (op.commits s.lib.directory) op.slot with
    | none => exact get_indexAfter_empty hwfi _ _
    | some e =>
      by_cases hr : e.flags.recognize = true
      · have hflags : op.kind.news = .flags → ∀ x, Table.get s.rcg.index op.slot = some x →
            ∃ f, x = indexEntry (Record.ofWire (chainBytes s.lib e)) f := by
          intro hnews x hx
          have hkind : op.kind = .setFlags := by
            cases hk : op.kind <;> simp [hk, LibKind.news] at hnews
            rfl
          rw [get_commits_same hwf] at he
          simp only [hkind] at he
          obtain ⟨d, hd, rfl⟩ := Option.map_eq_some_iff.1 he
          rw [hi, hd, Option.bind_some, indexed] at hx
          split at hx
          · exact ⟨d.flags, (Option.some.inj hx).symm⟩
          · simp at hx
        simp [get_indexAfter_recognize _ _ _ _ hr hflags, indexed, hr]
      · rw [Bool.not_eq_true] at hr
        simp [get_indexAfter_unrecognized hwfi _ _ _ hr, indexed, hr]
  · rw [get_indexAfter_other _ _ _ hslot, get_commits_other op _ hslot, hi]

theorem committed_keeps (hop : s.lib.op = some op) (hph : op.phase = .committing) : KeepsLibrary s (committed op s) := by
  have htables : TablesCanonical s → TablesCanonical (committed op s) := fun ⟨hd, hp, hi, hr⟩ =>
    ⟨wf_commits hd op, hp, wf_indexAfter hi _ _ _, hr⟩
  refine ⟨htables, fun h => ⟨htables h.tables, h.port, ?_, committed_placed h hop hph⟩, fun h => committed_index h hop⟩
  obtain ⟨hstate, hdown, -⟩ := h.mount
  exact ⟨hstate, hdown, fun hm => absurd (h.mounted_of_op hop) hm⟩

end

theorem commitEvent_keeps (s : State) : KeepsLibrary s (commitEvent s) := by
  cases hop : s.lib.op with
  | none => simpa [commitEvent, hop] using KeepsLibrary.refl s
  | some op =>
    by_cases hdue : op.phase = .committing ∧ op.due ≤ s.now
    · exact (committed_keeps hop hdue.1).trans (commitEvent_beside hop hdue).keeps
    · simpa [commitEvent, hop, hdue] using KeepsLibrary.refl s

/-! ### A cut (R33, R35, R36) -/

theorem commitCut_cases (d : List (Nat × DirEntry)) (s : State) :
    commitCut d s = setDirectory d (countDraw s) ∨ commitCut d s = countDraw s := by
  unfold commitCut
  split
  · exact .inl rfl
  · exact .inr rfl

theorem commitCut_pool (d : List (Nat × DirEntry)) (s : State) : (commitCut d s).lib.pool = s.lib.pool := by
  rcases commitCut_cases d s with h | h <;> rw [h] <;> rfl

theorem commitCut_directory (d : List (Nat × DirEntry)) (s : State) :
    (commitCut d s).lib.directory = s.lib.directory ∨ (commitCut d s).lib.directory = d := by
  rcases commitCut_cases d s with h | h <;> rw [h]
  · exact .inr rfl
  · exact .inl rfl

section
variable {s : State} {op : LibOp}

theorem cutOperation_none (hop : s.lib.op = none) : cutOperation s = s := by simp [cutOperation, hop]

theorem cutOperation_programming {n m : Nat} (hop : s.lib.op = some op) (hph : op.phase = .programming n m) :
    cutOperation s = setOp none (spoil (op.newChain.getD (n - 1) 0) s) := by simp [cutOperation, hop, hph]

theorem cutOperation_committing (hop : s.lib.op = some op) (hph : op.phase = .committing) :
    cutOperation s = setOp none (commitCut (op.commits s.lib.directory) s) := by simp [cutOperation, hop, hph]

/-- The segment being erased is the first of the chains to be released. -/
theorem cutOperation_releasing {n m seg : Nat} (hop : s.lib.op = some op) (hph : op.phase = .releasing n m)
    (hseg : (op.newChain ++ op.oldChain).head? = some seg) : cutOperation s = setOp none (spoil seg s) := by
  simp only [cutOperation, hop, hph]
  cases hnew : op.newChain with
  | cons a rest =>
    rw [hnew] at hseg
    obtain rfl : a = seg := by simpa using hseg
    rfl
  | nil =>
    cases hold : op.oldChain with
    | cons a rest =>
      rw [hnew, hold] at hseg
      obtain rfl : a = seg := by simpa using hseg
      rfl
    | nil => simp [hnew, hold] at hseg

theorem cutOperation_releasing_nil {n m : Nat} (hop : s.lib.op = some op) (hph : op.phase = .releasing n m)
    (hnil : op.newChain ++ op.oldChain = []) : cutOperation s = setOp none s := by
  obtain ⟨hnew, hold⟩ := List.append_eq_nil_iff.1 hnil
  simp [cutOperation, hop, hph, hnew, hold]

/-- What the cut of an operation can leave: the directory as it was or, of a commit, as it was to be; one segment spoiled. -/
theorem cutOperation_cases (s : State) :
    (cutOperation s).lib.mount = s.lib.mount ∧
      ((cutOperation s).lib.directory = s.lib.directory ∨
        ∃ op, s.lib.op = some op ∧ (cutOperation s).lib.directory = op.commits s.lib.directory) ∧
      ((cutOperation s).lib.pool = s.lib.pool ∨ ∃ n, (cutOperation s).lib.pool = Table.set s.lib.pool n .spoiled) := by
  cases hop : s.lib.op with
  | none => rw [cutOperation_none hop]; exact ⟨rfl, .inl rfl, .inl rfl⟩
  | some op =>
    cases hph : op.phase with
    | programming n m => rw [cutOperation_programming hop hph]; exact ⟨rfl, .inl rfl, .inr ⟨_, rfl⟩⟩
    | committing =>
      rw [cutOperation_committing hop hph]
      rcases commitCut_cases (op.commits s.lib.directory) s with h | h <;> rw [h]
      · exact ⟨rfl, .inr ⟨op, rfl, rfl⟩, .inl rfl⟩
      · exact ⟨rfl, .inl rfl, .inl rfl⟩
    | releasing n m =>
      cases hseg : (op.newChain ++ op.oldChain).head? with
      | none =>
        rw [cutOperation_releasing_nil hop hph (List.head?_eq_none_iff.1 hseg)]
        exact ⟨rfl, .inl rfl, .inl rfl⟩
      | some seg => rw [cutOperation_releasing hop hph hseg]; exact ⟨rfl, .inl rfl, .inr ⟨_, rfl⟩⟩

theorem cutMount_none (hm : s.lib.mount = none) : cutMount s = s := by simp [cutMount, hm]

/-- What the cut of a mount can leave: the directory as it was, or with one slot repaired; one segment spoiled. -/
theorem cutMount_cases (s : State) :
    ((cutMount s).lib.directory = s.lib.directory ∨
        ∃ slot, (cutMount s).lib.directory = Table.erase s.lib.directory slot) ∧
      ((cutMount s).lib.pool = s.lib.pool ∨ ∃ n, (cutMount s).lib.pool = Table.set s.lib.pool n .spoiled) := by
  unfold cutMount
  split
  · exact ⟨.inl rfl, .inl rfl⟩
  · split
    · next slot _ _ _ =>
      exact ⟨(commitCut_directory _ _).imp id fun h => ⟨slot, h⟩, .inl (commitCut_pool _ _)⟩
    · next seg _ _ _ => exact ⟨.inl rfl, .inr ⟨seg, rfl⟩⟩
    · exact ⟨.inl rfl, .inl rfl⟩

end

theorem cutLibrary_wf {s : State} (hd : Table.wf s.lib.directory = true) (hp : Table.wf s.lib.pool = true) :
    Table.wf (cutLibrary s).lib.directory = true ∧ Table.wf (cutLibrary s).lib.pool = true := by
  obtain ⟨-, hdir, hpool⟩ := cutOperation_cases s
  obtain ⟨hdir', hpool'⟩ := cutMount_cases (cutOperation s)
  have hd1 : Table.wf (cutOperation s).lib.directory = true := by
    rcases hdir with h | ⟨op, -, h⟩ <;> rw [h]
    · exact hd
    · exact wf_commits hd op
  have hp1 : Table.wf (cutOperation s).lib.pool = true := by
    rcases hpool with h | ⟨n, h⟩ <;> rw [h]
    · exact hp
    · exact Table.wf_set hp n _
  constructor
  · rw [cutLibrary]
    rcases hdir' with h | ⟨slot, h⟩ <;> rw [h]
    · exact hd1
    · exact Table.wf_erase hd1 slot
  · rw [cutLibrary]
    rcases hpool' with h | ⟨n, h⟩ <;> rw [h]
    · exact hp1
    · exact Table.wf_set hp1 n _

/-- The VALID chains that a cut leaves have no segment but those of the chains before it, old and new. -/
theorem cutLibrary_chains {s : State} (h : LibrarySound s) :
    (validSegments (cutLibrary s).lib).Subperm (validSegments s.lib ++ opChains s.lib) := by
  obtain ⟨-, hdir, -⟩ := cutOperation_cases s
  obtain ⟨hdir', -⟩ := cutMount_cases (cutOperation s)
  have hcut : (chainSegments (cutOperation s).lib.directory).Subperm (validSegments s.lib ++ opChains s.lib) := by
    rcases hdir with hd | ⟨op, hop, hd⟩ <;> rw [hd]
    · exact (List.sublist_append_left _ _).subperm
    · obtain ⟨hwf, -, -, -⟩ := h.tables
      obtain ⟨hnew, -⟩ := h.placed.op op hop
      rw [opChains_some hop, ← List.append_assoc]
      exact (chainSegments_commits_subperm hwf hnew).trans (List.sublist_append_left _ _).subperm
  rw [validSegments_eq, cutLibrary]
  rcases hdir' with hd | ⟨slot, hd⟩ <;> rw [hd]
  · exact hcut
  · exact (chainSegments_erase_subperm _ slot).trans hcut

theorem cutLibrary_chains_placed {s : State} (h : LibrarySound s) :
    (validSegments (cutLibrary s).lib).Nodup ∧ ∀ n ∈ validSegments (cutLibrary s).lib, n < segmentCount := by
  have hsub := cutLibrary_chains h
  have hplaces : (validSegments s.lib ++ opChains s.lib).Sublist (places s.lib) := by
    rw [places]
    exact ((List.sublist_append_left _ s.lib.free).append_right _).trans (List.sublist_append_left _ _)
  obtain ⟨l, hperm, hl⟩ := hsub
  refine ⟨hperm.nodup_iff.1 ((h.placed.nodup.sublist hplaces).sublist hl), fun n hn => ?_⟩
  exact h.placed.bound n (hplaces.subset (hl.subset (hperm.mem_iff.2 hn)))

/-! ### The resets (R182, R183) -/

/-- A library at the beginning of a mount, its directory and pool as a cut left them. -/
def Lib.remounted (l : Lib) (stage : MountStage) : Lib :=
  { l with free := [], op := none, mount := some { stage := stage, repaired := 0, reclaimed := 0 } }

/-- A reset keeps the library: cut back to a mount that has not yet sorted the segments, with an empty index. -/
theorem reset_keeps {s t : State} {stage : MountStage} (hlib : t.lib = (cutLibrary s).lib.remounted stage)
    (hindex : t.rcg.index = []) (hroutes : t.routes = []) (hopc : t.opc.state = .mounting) (hlink : t.link.state = .closed)
    (hstage : stage = .notBegun ∨ ∃ due, stage = .scanning due)
    (hdown : LibrarySound s → t.pins.powered = false ∨ t.pins.rstnLow = true → stage = .notBegun) : KeepsLibrary s t := by
  have htables : TablesCanonical s → TablesCanonical t := fun ⟨hd, hp, _, _⟩ => by
    obtain ⟨hd', hp'⟩ := cutLibrary_wf hd hp
    unfold TablesCanonical
    rw [hlib, hindex, hroutes]
    exact ⟨hd', hp', rfl, rfl⟩
  have hmount : t.lib.mount = some ⟨stage, 0, 0⟩ := by rw [hlib]; rfl
  have hop : t.lib.op = none := by rw [hlib]; rfl
  refine ⟨htables, fun h => ⟨htables h.tables, ?_, ?_, ?_⟩, fun _ _ => ?_⟩
  · simp [PortFollowsState, hlink, hopc, OpState.isOpen]
  · refine ⟨by simp [hmount, hopc], fun hpins => ⟨0, 0, ?_⟩, fun _ => hop⟩
    rw [hmount, hdown h hpins]
  · obtain ⟨hnodup, hbound⟩ := cutLibrary_chains_placed h
    have hvalid : validSegments t.lib = validSegments (cutLibrary s).lib := by rw [hlib]; rfl
    refine .unsorted_of_chains (hvalid ▸ hnodup) (hvalid ▸ hbound) (by rw [hlib]; rfl) hop ?_
    rcases hstage with rfl | ⟨due, rfl⟩ <;> simp [sorted, hmount]
  · rw [indexFollows_iff_mounting (by simp [hmount])]
    exact hindex

theorem powerOnEvent_keeps (straps : Straps) (s : State) : KeepsLibrary s (powerOnEvent straps s) := by
  refine reset_keeps rfl rfl rfl rfl rfl ?_ fun _ hpins => ?_
  · split
    · exact .inl rfl
    · exact .inr ⟨_, rfl⟩
  · have hlow : s.pins.rstnLow = true := by simpa [powerOnEvent, setSupply] using hpins
    rw [hlow]
    rfl

/-- Levels of supply and RSTN that are down already leave the library alone (log entry 14). -/
theorem setSupply_keeps {powered rstnLow : Bool} {s : State} (h : s.pins.powered = false ∨ s.pins.rstnLow = true) :
    KeepsLibrary s (setSupply powered rstnLow s) := by
  have htables : TablesCanonical s → TablesCanonical (setSupply powered rstnLow s) := id
  refine ⟨htables, fun hs => ⟨hs.tables, hs.port, ?_, hs.placed⟩, fun _ hi => hi⟩
  obtain ⟨hstate, hdown, hop⟩ := hs.mount
  exact ⟨hstate, fun _ => hdown h, hop⟩

theorem rstnAssertedEvent_keeps (straps : Straps) (s : State) : KeepsLibrary s (rstnAssertedEvent straps s) := by
  unfold rstnAssertedEvent
  split
  · exact .refl s
  · split
    · exact reset_keeps rfl rfl rfl rfl rfl (.inl rfl) fun _ _ => rfl
    · next hpow => exact setSupply_keeps (.inl (by simpa using hpow))

theorem powerLossEvent_keeps (s : State) : KeepsLibrary s (powerLossEvent s) :=
  .ite (reset_keeps rfl rfl rfl rfl rfl (.inl rfl) fun _ _ => rfl) (.refl s)

end Sys2Proof.Machine
end

section
/-! What each stage of mount keeps, and what the requests of the library keep (R20 to R27, R34 to R37). -/

namespace Sys2Proof.Machine

/-! ### Mount -/

section
variable {s : State} {stage : MountStage} {n k : Nat}

/-- A mount in progress goes on: it has not ended, and its index is still empty. -/
theorem KeepsLibrary.withLib_mounting {l : Lib} (hm : s.lib.mount = some ⟨stage, n, k⟩) (hbegun : stage ≠ .notBegun)
    (hmount : l.mount ≠ none) (hop : l.op = s.lib.op)
    (hwf : Table.wf s.lib.directory = true → Table.wf s.lib.pool = true →
      Table.wf l.directory = true ∧ Table.wf l.pool = true)
    (hplaced : LibrarySound s → l.Placed) : KeepsLibrary s (s.withLib l) := by
  have htables : TablesCanonical s → TablesCanonical (s.withLib l) := fun ⟨hd, hp, hi, hr⟩ =>
    ⟨(hwf hd hp).1, (hwf hd hp).2, hi, hr⟩
  refine ⟨htables, fun h => ⟨htables h.tables, h.port, ?_, hplaced h⟩, fun h hi => ?_⟩
  · obtain ⟨hstate, -, hidle⟩ := h.mount
    obtain ⟨hpow, hrst⟩ := h.supplied fun _ _ hn => hbegun (by rw [hm] at hn; simpa using congrArg (·.map Mount.stage) hn)
    have hmounting : s.opc.state = .mounting := by simpa [hm] using hstate
    exact ⟨by simp [hmount, hmounting], by simp [hpow, hrst], fun _ => hop.trans (hidle (by simp [hm]))⟩
  · rw [indexFollows_iff_mounting (by simp [hm])] at hi
    rw [indexFollows_iff_mounting (by simpa using hmount)]
    exact hi

/-- The last stage of mount ends in AWAKE with the index built; the segments are in their places (R37, R81). -/
theorem mountEnds_keeps {l : Lib} (repaired reclaimed : Nat) (hm : s.lib.mount = some ⟨stage, n, k⟩)
    (hbegun : stage ≠ .notBegun)
    (hwf : Table.wf s.lib.directory = true → Table.wf s.lib.pool = true →
      Table.wf l.directory = true ∧ Table.wf l.pool = true)
    (hplaced : LibrarySound s → Lib.Placed { l with mount := none }) :
    KeepsLibrary s (mountEnds repaired reclaimed (s.withLib l)) := by
  refine KeepsLibrary.trans ?_ (notify_beside _ _).keeps
  refine ⟨fun ⟨hd, hp, _, hr⟩ => ?_, fun h => ?_, fun h _ => ?_⟩
  · exact ⟨(hwf hd hp).1, (hwf hd hp).2, wf_buildIndex (by exact (hwf hd hp).1), hr⟩
  · obtain ⟨hd, hp, -, hr⟩ := h.tables
    obtain ⟨hpow, hrst⟩ := h.supplied fun _ _ hn => hbegun (by rw [hm] at hn; simpa using congrArg (·.map Mount.stage) hn)
    obtain ⟨-, -, hidle⟩ := h.mount
    refine ⟨⟨(hwf hd hp).1, (hwf hd hp).2, wf_buildIndex (by exact (hwf hd hp).1), hr⟩, ?_, ?_, hplaced h⟩
    · simp [PortFollowsState, OpState.isOpen]
    · refine ⟨?_, fun hdown => ?_, fun hmount => absurd rfl hmount⟩
      · exact ⟨fun _ => by simp, fun _ => rfl⟩
      · have : s.pins.powered = false ∨ s.pins.rstnLow = true := hdown
        simp [hpow, hrst] at this
  · obtain ⟨hd, hp, -, -⟩ := h.tables
    rw [indexFollows_iff_mounted rfl]
    exact get_buildIndex (by exact (hwf hd hp).1)

theorem LibrarySound.idle_of_mount (h : LibrarySound s) {m : Mount} (hm : s.lib.mount = some m) : s.lib.op = none := by
  obtain ⟨-, -, hidle⟩ := h.mount
  exact hidle (by simp [hm])

theorem Lib.Placed.chains {l : Lib} (h : l.Placed) :
    (validSegments l).Nodup ∧ ∀ n ∈ validSegments l, n < segmentCount := by
  have hsub : (validSegments l).Sublist (places l) := by
    rw [places, List.append_assoc, List.append_assoc]
    exact List.sublist_append_left _ _
  exact ⟨h.nodup.sublist hsub, fun n hn => h.bound n (hsub.subset hn)⟩

/-- The chains after a repair are among those before it (R35). -/
theorem Lib.Placed.chains_erase {l : Lib} (h : l.Placed) (slot : Nat) :
    (chainSegments (Table.erase l.directory slot)).Nodup ∧
      ∀ n ∈ chainSegments (Table.erase l.directory slot), n < segmentCount := by
  obtain ⟨hnodup, hbound⟩ := h.chains
  obtain ⟨l', hperm, hl⟩ := chainSegments_erase_subperm l.directory slot
  exact ⟨hperm.nodup_iff.1 (hnodup.sublist hl), fun n hn => hbound n (hl.subset (hperm.mem_iff.2 hn))⟩

/-- The leftovers do not depend on the free set. -/
theorem leftovers_of_free (l : Lib) (free : List Nat) : leftovers { l with free := free } = leftovers l := rfl

/-- The reclaim begins with the segments sorted into their places, and ends mount at once where nothing is left over
(R36, R37). -/
theorem beginReclaim_keeps {l : Lib} (moment repaired : Nat) (hm : s.lib.mount = some ⟨stage, n, k⟩)
    (hbegun : stage ≠ .notBegun) (hop : l.op = s.lib.op)
    (hwf : Table.wf s.lib.directory = true → Table.wf s.lib.pool = true →
      Table.wf l.directory = true ∧ Table.wf l.pool = true)
    (hchains : LibrarySound s → (validSegments l).Nodup ∧ ∀ n ∈ validSegments l, n < segmentCount) :
    KeepsLibrary s (beginReclaim moment repaired (s.withLib l)) := by
  have hplaced (h : LibrarySound s) (m : Option Mount)
      (hs : sorted { l with free := erasedSegments l, mount := m })
      (hreclaim : toReclaim { l with free := erasedSegments l, mount := m } = leftovers l) :
      Lib.Placed { l with free := erasedSegments l, mount := m } := by
    obtain ⟨hd, hp, -, -⟩ := h.tables
    obtain ⟨hnodup, hbound⟩ := hchains h
    exact sorted_placed (l := l) (hwf hd hp).2 hnodup hbound rfl rfl (by dsimp only) (hop.trans (h.idle_of_mount hm)) hs hreclaim
  unfold beginReclaim
  simp only [State.withLib_lib, State.withLib_withLib, setMount, leftovers_of_free]
  split
  · next hnone =>
    refine mountEnds_keeps _ _ hm hbegun hwf fun h => ?_
    dsimp only
    exact hplaced h none (.inl rfl) (Eq.symm hnone)
  · exact .withLib_mounting hm hbegun (by simp) hop hwf fun h => hplaced h _ (.inr ⟨_, _, _, _, rfl⟩) rfl

end

theorem wf_decay {pool : List (Nat × Segment)} (h : Table.wf pool = true) (decayed : List (Nat × List Byte)) :
    Table.wf (decay decayed pool) = true := by
  unfold decay
  induction decayed generalizing pool with
  | nil => exact h
  | cons d rest ih =>
    rw [List.foldl_cons]
    split
    · exact ih (Table.wf_set h _ _)
    · exact ih h

theorem scanCompleteEvent_keeps (decayed : List (Nat × List Byte)) (s : State) :
    KeepsLibrary s (scanCompleteEvent decayed s) := by
  unfold scanCompleteEvent
  split
  · next due n k hm =>
    refine .ite ?_ (.refl s)
    dsimp only
    split
    · exact beginReclaim_keeps _ _ hm (by simp) rfl (fun hd hp => ⟨hd, wf_decay hp decayed⟩) fun h => h.placed.chains
    · refine .withLib_mounting hm (by simp) (by simp) rfl (fun hd hp => ⟨hd, wf_decay hp decayed⟩) fun h => ?_
      obtain ⟨hnodup, hbound⟩ := h.placed.chains
      have hunsorted : ¬sorted s.lib := by simp [sorted, hm]
      exact .unsorted_of_chains hnodup hbound (h.placed.unsorted hunsorted) (h.idle_of_mount hm) (by simp [sorted])
  · exact .refl s

theorem repairCommitEvent_keeps (s : State) : KeepsLibrary s (repairCommitEvent s) := by
  unfold repairCommitEvent
  split
  · next slot rest due n k hm =>
    refine .ite ?_ (.refl s)
    dsimp only
    split
    · exact beginReclaim_keeps _ _ hm (by simp) rfl (fun hd hp => ⟨Table.wf_erase hd slot, hp⟩)
        fun h => h.placed.chains_erase slot
    · refine .withLib_mounting hm (by simp) (by simp) rfl (fun hd hp => ⟨Table.wf_erase hd slot, hp⟩) fun h => ?_
      obtain ⟨hnodup, hbound⟩ := h.placed.chains_erase slot
      have hunsorted : ¬sorted s.lib := by simp [sorted, hm]
      exact .unsorted_of_chains hnodup hbound (h.placed.unsorted hunsorted) (h.idle_of_mount hm) (by simp [sorted])
  · exact .refl s

theorem reclaimEraseEvent_keeps (s : State) : KeepsLibrary s (reclaimEraseEvent s) := by
  unfold reclaimEraseEvent
  split
  · next seg rest due n k hm =>
    have hplaced (h : LibrarySound s) (m : Option Mount)
        (hs : sorted { s.lib with pool := Table.erase s.lib.pool seg, free := insertAscending seg s.lib.free, mount := m })
        (hrest : toReclaim { s.lib with mount := m } = rest) :
        Lib.Placed
          { s.lib with pool := Table.erase s.lib.pool seg, free := insertAscending seg s.lib.free, mount := m } := by
      obtain ⟨-, hp, -, -⟩ := h.tables
      have hidle := h.idle_of_mount hm
      refine h.placed.eraseSegment (.inr ⟨_, _, _, _, hm⟩) hs hp rfl rfl rfl ?_ (by simp [hidle])
      rw [opChains_none hidle, opChains_none (by exact hidle)]
      have hwork : toReclaim s.lib = seg :: rest := by simp [toReclaim, hm]
      rw [hwork, ← hrest]
      rfl
    refine .ite ?_ (.refl s)
    dsimp only
    split
    · exact mountEnds_keeps _ _ hm (by simp) (fun hd hp => ⟨hd, Table.wf_erase hp seg⟩)
        fun h => hplaced h none (.inl rfl) rfl
    · exact .withLib_mounting hm (by simp) (by simp) rfl (fun hd hp => ⟨hd, Table.wf_erase hp seg⟩)
        fun h => hplaced h _ (.inr ⟨_, _, _, _, rfl⟩) rfl
  · exact .refl s

/-- A mount that begins with RSTN's release was not begun before (R182). -/
theorem rstnReleasedEvent_keeps (s : State) : KeepsLibrary s (rstnReleasedEvent s) := by
  unfold rstnReleasedEvent
  split
  · next hlow =>
    dsimp only
    split
    · next hpow =>
      have hmount (h : LibrarySound s) : ∃ n k, s.lib.mount = some ⟨.notBegun, n, k⟩ := by
        obtain ⟨-, hdown, -⟩ := h.mount
        exact hdown (.inr hlow)
      refine ⟨id, fun h => ?_, fun h hi => ?_⟩
      · obtain ⟨n, k, hm⟩ := hmount h
        obtain ⟨hstate, -, -⟩ := h.mount
        have hmounting : s.opc.state = .mounting := by simpa [hm] using hstate
        have hunsorted : ¬sorted s.lib := by simp [sorted, hm]
        obtain ⟨hnodup, hbound⟩ := h.placed.chains
        refine ⟨h.tables, h.port, ⟨?_, fun hdown => ?_, fun _ => h.idle_of_mount hm⟩, ?_⟩
        · simp [setMount, setSupply, hmounting]
        · simp [setMount, setSupply, hpow] at hdown
        · exact .unsorted_of_chains hnodup hbound (h.placed.unsorted hunsorted) (h.idle_of_mount hm) (by simp [sorted, setMount])
      · obtain ⟨n, k, hm⟩ := hmount h
        rw [indexFollows_iff_mounting (by simp [hm])] at hi
        rw [indexFollows_iff_mounting (by simp [setMount])]
        exact hi
    · exact setSupply_keeps (.inr hlow)
  · exact .refl s

end Sys2Proof.Machine
end

section
/-! What every command keeps of the library (R15 to R17, R80, R81, R182): the requests, the link, and the step. -/

namespace Sys2Proof.Machine

/-! ### RESET (R183) -/

/-- The blocks a cut reaches: the library, and the count of free values (R33; log entry 2). -/
def Blocks.cut : Blocks := { draws := true, lib := true }

theorem commitCut_changes (d : List (Nat × DirEntry)) (s : State) : Changes Blocks.cut s (commitCut d s) := by
  have hdraw : Changes Blocks.cut s (countDraw s) := .withDraws rfl s _
  exact .ite (hdraw.trans (.withLib rfl _ _)) hdraw

theorem cutOperation_changes (s : State) : Changes Blocks.cut s (cutOperation s) := by
  unfold cutOperation
  split
  · exact .refl s
  · refine Changes.trans ?_ (.withLib rfl _ _)
    split
    · exact .withLib rfl s _
    · exact commitCut_changes _ s
    · split
      · exact .withLib rfl s _
      · exact .withLib rfl s _
      · exact .refl s

theorem cutMount_changes (s : State) : Changes Blocks.cut s (cutMount s) := by
  unfold cutMount
  split
  · exact .refl s
  · split
    · exact commitCut_changes _ s
    · exact .withLib rfl s _
    · exact .refl s

theorem cutLibrary_changes (s : State) : Changes Blocks.cut s (cutLibrary s) :=
  (cutOperation_changes s).trans (cutMount_changes _)

section
variable {s : State}

/-- A request can only be taken with the supply present and RSTN high, so its reset begins a mount at once (R183). -/
theorem resetRequest_keeps (hl : s.link.state ≠ .closed) : KeepsLibrary s (resetRequest s) := by
  refine reset_keeps rfl rfl rfl rfl rfl (.inr ⟨_, rfl⟩) fun h hdown => ?_
  obtain ⟨hpow, hrst⟩ := h.supplied fun _ _ hm => by simp [h.mounted_of_link hl] at hm
  have hpins : (cutLibrary s).pins = s.pins := (cutLibrary_changes s).pins rfl
  simp [resetRequest, resetPart, hpins, hpow, hrst] at hdown

/-! ### STORE, ERASE and SET_CODE_FLAGS (R20, R21, R26, R27) -/

theorem one_le_storedSize {r : Record} (h : recordFault r = none) : 1 ≤ storedSize r.wireSize := by
  have hbounds := Record.length_wire_bounds h
  rw [← Record.wireSize_eq_length_wire] at hbounds
  unfold storedSize
  omega

theorem recordFault_of_storeSource {p : List Byte} {flags : SlotFlags} {r : Record}
    (h : storeSource s p = .ok (flags, r)) : recordFault r = none := by
  unfold storeSource at h
  split at h
  · simp at h
  · split at h
    · dsimp only at h
      split at h
      · simp at h
      · split at h
        · simp at h
        · next hr =>
          obtain ⟨-, rfl⟩ : _ ∧ _ := by simpa using h
          exact hr
    · simp at h

/-- An accepted STORE takes its new chain from the head of the free set (R21). -/
theorem beginStore_keeps {r : Record} (slot : Nat) (flags : SlotFlags) (tag : Byte) (hl : s.link.state ≠ .closed)
    (hop : s.lib.op = none) (hr : recordFault r = none) (hspace : storedSize r.wireSize ≤ s.lib.free.length) :
    KeepsLibrary s (beginStore slot flags r tag s) := by
  refine .withLib (fun h => h.mounted_of_link hl) rfl rfl id (fun h => ?_) fun _ _ _ => rfl
  have hm := h.mounted_of_link hl
  refine h.placed.moved (sorted_mounted hm) (sorted_mounted hm) ?_ (h.placed.ascends.sublist (List.drop_sublist ..))
    (fun n hn => h.placed.erased n (List.mem_of_mem_drop hn)) ?_
  · rw [places_mounted hm, places_mounted (by exact hm), opChains_none hop, opChains_some rfl, List.append_nil,
      List.append_nil, List.append_assoc]
    refine List.Perm.append_left _ (List.perm_append_comm.trans ?_)
    exact .of_eq (List.take_append_drop ..)
  · rintro _ ⟨rfl⟩
    refine ⟨fun hk => absurd rfl hk, rfl, rfl, le_refl 1, one_le_storedSize hr, ?_, fun n hn => ?_⟩
    · exact List.length_take_of_le hspace
    · exact h.placed.erased n (List.mem_of_mem_take hn)

theorem ownStore_keeps (tag : Byte) (p : List Byte) (hl : s.link.state ≠ .closed) :
    KeepsLibrary s (ownStore tag p s) := by
  have hreply (st : Status) (more : List Byte) : KeepsLibrary s (reply tag st more s) := (reply_beside tag st more s).keeps
  unfold ownStore
  refine .ite (hreply _ _) ?_
  split
  · exact hreply _ _
  · next flags r hsource =>
    split
    · exact hreply _ _
    · next hop =>
      split
      · exact hreply _ _
      · next hspace =>
        refine (hreply .accepted []).trans (beginStore_keeps _ _ _ hl ?_ (recordFault_of_storeSource hsource) ?_)
        · exact Option.not_isSome_iff_eq_none.1 hop
        · exact not_lt.1 hspace

/-- An operation that begins with its commit has no new chain (R26, R27). -/
theorem beginCommit_keeps (kind : LibKind) (slot : Nat) (flags : SlotFlags) (tag : Byte) (hl : s.link.state ≠ .closed)
    (hop : s.lib.op = none) : KeepsLibrary s (beginCommit kind slot flags tag s) := by
  refine .withLib (fun h => h.mounted_of_link hl) rfl rfl id (fun h => ?_) fun _ _ _ => rfl
  have hm := h.mounted_of_link hl
  refine h.placed.moved (sorted_mounted hm) (sorted_mounted hm) ?_ h.placed.ascends h.placed.erased ?_
  · rw [places_mounted hm, places_mounted (by exact hm), opChains_none hop, opChains_some rfl]
    exact .refl _
  · rintro _ ⟨rfl⟩
    exact ⟨fun _ => rfl, rfl⟩

theorem op_of_changeRefusal {slot : Nat} (h : changeRefusal s slot = none) : s.lib.op = none := by
  unfold changeRefusal at h
  split at h
  · simp at h
  · next hop => exact Option.not_isSome_iff_eq_none.1 hop

theorem ownErase_keeps (tag : Byte) (p : List Byte) (hl : s.link.state ≠ .closed) :
    KeepsLibrary s (ownErase tag p s) := by
  have hreply (st : Status) : KeepsLibrary s (replyStatus tag st s) := (replyStatus_beside tag st s).keeps
  unfold ownErase
  refine .ite ?_ (hreply _)
  split
  · exact hreply _
  · next hfree =>
    exact (hreply .accepted).trans (beginCommit_keeps _ _ _ _ hl (op_of_changeRefusal hfree))

theorem ownSetCodeFlags_keeps (tag : Byte) (p : List Byte) (hl : s.link.state ≠ .closed) :
    KeepsLibrary s (ownSetCodeFlags tag p s) := by
  have hreply (st : Status) : KeepsLibrary s (replyStatus tag st s) := (replyStatus_beside tag st s).keeps
  unfold ownSetCodeFlags
  dsimp only
  split
  · exact hreply _
  · refine .ite ?_ (hreply _)
    split
    · exact hreply _
    · next hfree =>
      exact (hreply .accepted).trans (beginCommit_keeps _ _ _ _ hl (op_of_changeRefusal hfree))

/-! ### Taking a frame (R161, R162) -/

theorem ownStandby_keeps (tag : Byte) (hl : s.link.state ≠ .closed) : KeepsLibrary s (ownStandby tag s) where
  tables := id
  sound h := (ownStandby_beside tag (h.isOpen_of_link hl)).librarySound h
  index h := (ownStandby_beside tag (h.isOpen_of_link hl)).keeps.index h

theorem own_keeps (found : OpState) (kind : ReqKind) (tag : Byte) (p : List Byte) (hl : s.link.state ≠ .closed) :
    KeepsLibrary s (own found kind tag p s) := by
  cases kind with
  | getStatus => exact (reply_beside tag _ _ s).keeps
  | configure => exact (ownConfigure_beside tag p s).keeps
  | readConfig => exact (ownReadConfig_beside tag p s).keeps
  | standby => exact ownStandby_keeps tag hl
  | reset => exact resetRequest_keeps hl
  | learnStart => exact (ownLearnStart_beside tag p s).keeps
  | learnStop => exact (ownLearnStop_beside tag s).keeps
  | readStaged => exact (ownReadStaged_beside tag s).keeps
  | store => exact ownStore_keeps tag p hl
  | erase => exact ownErase_keeps tag p hl
  | setCodeFlags => exact ownSetCodeFlags_keeps tag p hl
  | readCode => exact (ownReadCode_beside tag p s).keeps
  | listCodes => exact (ownListCodes_beside tag p s).keeps
  | send => exact (ownSend_beside tag p s).keeps
  | hold => exact (ownHold_beside tag p s).keeps
  | sequence => exact (ownSequence_beside tag p s).keeps
  | release => exact (ownRelease_beside tag p s).keeps
  | cancel => exact (ownCancel_beside tag p s).keeps
  | flush => exact (ownFlush_beside tag p s).keeps
  | jobStatus => exact (ownJobStatus_beside tag p s).keeps
  | emitterControl => exact (ownEmitterControl_beside tag p s).keeps
  | routeSet => exact (ownRouteSet_beside tag p s).keeps
  | routeClear => exact (ownRouteClear_beside tag p s).keeps
  | routeRead => exact (ownRouteRead_beside tag p s).keeps

@[simp] theorem returnToAwake_link (s : State) : (returnToAwake s).link = s.link := by
  unfold returnToAwake
  split <;> rfl

theorem take_keeps (f : CheckedFrame) (hl : s.link.state ≠ .closed) : KeepsLibrary s (take f s) := by
  cases f with
  | rejected tag status => exact (replyStatus_beside tag status s).keeps
  | good kind tag p =>
    unfold take
    dsimp only
    split
    · exact own_keeps _ _ _ _ hl
    · exact (returnToAwake_beside s).keeps.trans (own_keeps _ _ _ _ (by simpa using hl))

theorem arrive_keeps (f : CheckedFrame) (hl : s.link.state ≠ .closed) : KeepsLibrary s (arrive f s) :=
  .ite ((BesideLibrary.withLink_open s hl (by simp)).keeps.trans (take_keeps f (by simp)))
    (BesideLibrary.withLink_open s hl (by simp [Link.hold])).keeps

theorem takePending_keeps (s : State) : KeepsLibrary s (takePending s) := by
  unfold takePending
  split
  · exact .refl s
  · split
    · next h _ hready =>
      obtain ⟨-, hstate⟩ := hready
      have hl : s.link.state ≠ .closed := by rcases hstate with h | h <;> simp [h]
      have hl' : (if s.link.state = .pending then LinkState.idle else s.link.state) ≠ .closed := by
        split
        · simp
        · exact hl
      exact (BesideLibrary.withLink_open s hl hl').keeps.trans (take_keeps _ hl')
    · exact .refl s

/-! ### The link -/

theorem writeEndEvent_keeps (s : State) : KeepsLibrary s (writeEndEvent s) := by
  unfold writeEndEvent
  split
  · next h =>
    have hl : s.link.state ≠ .closed := by simp [h]
    exact .ite (BesideLibrary.withLink_open s hl (by simp)).keeps (arrive_keeps _ hl)
  · exact .refl s

theorem addressEvent_keeps (address : BitVec 7) (read : Bool) (s : State) :
    KeepsLibrary s (addressEvent address read s) := by
  have hend : KeepsLibrary s (endTransaction s) :=
    (writeEndEvent_keeps s).trans ((readEndEvent_beside _).trans (settleStandby_beside _)).keeps
  exact hend.trans (.ite (judgeAddress_beside read _).keeps (setAck_beside false _).keeps)

theorem messageSentEvent_keeps (acked : Bool) (s : State) : KeepsLibrary s (messageSentEvent acked s) := by
  have hsent (b : Byte) {l : Link} (h : l.state = s.link.state) : KeepsLibrary s ((setSent b s).withLink l) :=
    ((setSent_beside b s).trans (.withLink _ h)).keeps
  unfold messageSentEvent
  refine .ite ?_ (releasedByte_beside acked s).keeps
  split
  · exact .ite ((hsent _ (by rfl)).trans (handOff_beside acked _).keeps) (.refl s)
  · exact .ite (((hsent _ (by rfl)).trans (takePending_keeps _)).trans (handOff_beside acked _).keeps) (.refl s)
  · exact .refl s

theorem hostRequest_keeps (kind : ReqKind) (tag : Byte) (p : List Byte) (s : State) :
    KeepsLibrary s (hostRequest kind tag p s) := by
  unfold hostRequest
  refine (addressEvent_keeps s.link.address false s).trans ?_
  dsimp only
  split
  · next h => exact (BesideLibrary.withLink _ (by rfl)).keeps.trans (arrive_keeps _ (by simp [h]))
  · exact .refl _

/-! ### The step -/

/-- A command keeps the library when its effect does: time passes before it, and standby may be entered after it. -/
theorem event_keeps {dt : Nat} {f : State → State} {t : State} (hf : ∀ u, KeepsLibrary u (f u))
    (h : event dt f s = .next t) : KeepsLibrary s t := by
  obtain rfl : settleStandby (f (advance dt s)) = t := by simpa [event] using h
  exact ((advance_beside dt s).keeps.trans (hf _)).trans (settleStandby_beside _).keeps

theorem event_beside {dt : Nat} {f : State → State} {t : State} (hf : ∀ u, BesideLibrary u (f u))
    (h : event dt f s = .next t) : KeepsLibrary s t := event_keeps (fun u => (hf u).keeps) h

theorem exec_keeps (c : Instr) {t : State} (h : exec c s = .next t) : KeepsLibrary s t := by
  cases c with
  | powerOn => exact event_keeps (powerOnEvent_keeps _) h
  | rstnAsserted => exact event_keeps (rstnAssertedEvent_keeps _) h
  | rstnReleased => exact event_keeps rstnReleasedEvent_keeps h
  | powerLoss => exact event_keeps powerLossEvent_keeps h
  | mountScanComplete => exact event_keeps (scanCompleteEvent_keeps _) h
  | mountRepairCommit => exact event_keeps repairCommitEvent_keeps h
  | mountReclaimErase => exact event_keeps reclaimEraseEvent_keeps h
  | segmentVerify => exact event_keeps (segmentVerifyEvent_keeps _) h
  | commit => exact event_keeps commitEvent_keeps h
  | segmentErased => exact event_keeps segmentErasedEvent_keeps h
  | addressByte => exact event_keeps (addressEvent_keeps _ _) h
  | writeEnd => exact event_keeps writeEndEvent_keeps h
  | pendingFrameTaken => exact event_keeps takePending_keeps h
  | messageSent => exact event_keeps (messageSentEvent_keeps _) h
  | readEnd => exact event_beside readEndEvent_beside h
  | linkRelease => exact event_beside (linkReleaseEvent_beside _) h
  | dataByteWritten => exact event_beside (dataByteEvent_beside _) h
  | byteSent => exact event_beside (byteSentEvent_beside _) h
  | getStatus | configure | readConfig | standby | reset | learnStart | learnStop | readStaged | store | erase
  | setCodeFlags | readCode | listCodes | send | hold | sequence | release | cancel | flush | jobStatus | disable | enable
  | clearFault | nearOn | nearOff | routeSet | routeClear | routeRead => exact event_keeps (hostRequest_keeps _ _ _) h
  | candidateMarkBegins => exact event_beside (riseEvent_beside _) h
  | glitchLimitReached => exact event_beside (candidateEvent_beside _) h
  | markEnds => exact event_beside (fallEvent_beside _) h
  | envelopeMarkEnd => exact event_beside (takeEnvelope_beside .learn) h
  | frameGapReached => exact event_beside (gapEvent_beside _) h
  | longMark => exact event_beside (longEvent_beside _) h
  | settlingDone => exact event_beside (takeSettled_beside _) h
  | windowExpiry => exact event_beside windowEvent_beside h
  | endGapExpiry => exact event_beside endGapEvent_beside h
  | releaseTimerExpiry => exact event_beside releaseTimerEvent_beside h
  | frameStart => exact event_beside (frameStartEvent_beside _) h
  | elementEnd => exact event_beside (elementEndEvent_beside _) h
  | frameEnd => exact event_beside (frameEndEvent_beside _) h
  | pauseEnd => exact event_beside (pauseEndEvent_beside _) h
  | sendStepStart => exact event_beside (sendStepStartEvent_beside _) h
  | holdDeadlineExpiry => exact event_beside (holdDeadlineEvent_beside _) h
  | openWindowClose => exact event_beside (openWindowCloseEvent_beside _) h
  | overcurrent => exact event_beside (overcurrentEvent_beside _) h
  | maskWindowClose => exact event_beside (maskWindowCloseEvent_beside _) h
  | carrierPulseEdge => exact event_beside (pulseEdgeEvent_beside _) h
  | standbyEntry => exact event_beside settleStandby_beside h
  | wakeCompletion => exact event_beside wakeCompletionEvent_beside h

theorem step_keeps {t : State} (h : step s = .next t) : KeepsLibrary s t := by
  unfold step at h
  split at h
  · obtain rfl : s = t := by simpa using h
    exact .refl s
  · next c rest _ =>
    have hqueue : BesideLibrary s (s.withPending rest) := .of_same rfl rfl rfl rfl rfl rfl rfl
    exact hqueue.keeps.trans (exec_keeps c h)

end

/-- Settles O54: every step keeps the library, its tables by themselves and its index with the other invariants. -/
theorem tablesStayCanonical : Obligations.tablesStayCanonical :=
  ⟨fun _ _ htables hstep => (step_keeps hstep).tables htables,
    fun _ _ htables hport hmount hplaced hindex hstep =>
      (step_keeps hstep).index ⟨htables, hport, hmount, segmentsPlaced_iff.1 hplaced⟩ hindex⟩

/-- Settles O59: a sound library stays sound in every step. -/
theorem segmentsStayPlaced : Obligations.segmentsStayPlaced := by
  intro s t htables hport hmount hplaced hstep
  have hsound := (step_keeps hstep).sound ⟨htables, hport, hmount, segmentsPlaced_iff.1 hplaced⟩
  exact ⟨hsound.mount, segmentsPlaced_iff.2 hsound.placed⟩

end Sys2Proof.Machine
end

section
/-! The commit of an entry, its news, and the programming and erasing of segments, as commands (R19, R22 to R28, R32, R93). -/

namespace Sys2Proof.Machine

/-! ### Commit news -/

/-- FLAGS news of a code with RECOGNIZE changes an indexed slot's NOTIFY and WAKE flags alone (R82). -/
theorem get_indexAfter_flags {index : List (Nat × IndexEntry)} {slot : Nat} {e : IndexEntry} (r : Record) {f : SlotFlags}
    (hf : f.recognize = true) (he : Table.get index slot = some e) :
    Table.get (indexAfter index .flags slot (some (r, f))) slot = some { e with notify := f.notify, wake := f.wake } := by
  simp [indexAfter, hf, he]

section
variable {s : State} {p : Press} {slot : Nat}

/-- With no press under way on the slot, news reaches the index alone. -/
theorem commitNews_index_only (kind : NewsKind) (new : Option (Record × SlotFlags))
    (h : ∀ p, s.rcg.press = some p → p.slot ≠ slot) :
    commitNews kind slot new s = s.withRcg { s.rcg with index := indexAfter s.rcg.index kind slot new } := by
  cases hp : s.rcg.press with
  | none => simp [commitNews, hp]
  | some p => simp [commitNews, hp, h p hp]

/-- FLAGS news with RECOGNIZE gives the press on the slot the new NOTIFY flag (R93). -/
theorem commitNews_flags {r : Record} {f : SlotFlags} (hp : s.rcg.press = some p) (hslot : p.slot = slot)
    (hf : f.recognize = true) :
    commitNews .flags slot (some (r, f)) s =
      s.withRcg { s.rcg with
        index := indexAfter s.rcg.index .flags slot (some (r, f)), press := some { p with notify := f.notify } } := by
  simp [commitNews, hp, hslot, hf, setPress]

/-- Every other news withdraws the press on the slot (R93). -/
theorem commitNews_withdraws {kind : NewsKind} {new : Option (Record × SlotFlags)} {r : Record} {f : SlotFlags}
    (hp : s.rcg.press = some p) (hslot : p.slot = slot)
    (h : kind = .record ∨ kind = .empty ∨ (kind = .flags ∧ new = some (r, f) ∧ f.recognize = false)) :
    commitNews kind slot new s =
      endPress p .withdrawn (s.withRcg { s.rcg with index := indexAfter s.rcg.index kind slot new }) := by
  rcases h with rfl | rfl | ⟨rfl, rfl, hf⟩
  · simp [commitNews, hp, hslot]
  · simp [commitNews, hp, hslot]
  · simp [commitNews, hp, hslot, hf]

end

/-- Settles O23: the index by the news of each kind, the press by its slot. -/
theorem commitNewsActsOnPress : Obligations.commitNewsActsOnPress := by
  intro kind slot r f p s
  refine ⟨fun hf hkind => ?_, fun hwf => ⟨get_indexAfter_empty hwf kind slot, get_indexAfter_unrecognized hwf kind slot r⟩,
    fun e hf he => get_indexAfter_flags r hf he, fun hf he => ?_,
    fun k hk new => get_indexAfter_other _ kind new hk, commitNews_flags, fun new => commitNews_withdraws,
    fun new h => commitNews_index_only kind new fun q hq => ?_⟩
  · exact get_indexAfter_recognize _ _ _ _ hf fun h => absurd h hkind
  · exact get_indexAfter_recognize _ _ _ _ hf fun _ e h => by simp [he] at h
  · rcases h with h | ⟨h, hslot⟩
    · simp [h] at hq
    · obtain rfl : p = q := by simpa [h] using hq
      exact hslot

/-! ### The commit -/

/-- While an operation is in flight standby is not entered (R185). -/
theorem settleStandby_of_op {s : State} (h : s.lib.op ≠ none) : settleStandby s = s := by
  have hbusy : readyForStandby s = false := by
    simp [readyForStandby, noLibraryOperation, h]
  simp [settleStandby, hbusy]

section
variable {s : State} {op : LibOp}

/-- The end of a commit with no press under way (R24 to R28). -/
theorem commitEvent_of_idle (hop : s.lib.op = some op) (hph : op.phase = .committing) (hdue : op.due ≤ s.now)
    (hpress : s.rcg.press = none) :
    commitEvent s =
      if op.kind = .setFlags ∨ chainOf s op.slot = [] then
        notified (.libDone op.tag op.kind op.slot false) (committed op s)
      else committed op s := by
  have hnews := commitNews_index_only op.kind.news (committedNews (setDirectory (op.commits s.lib.directory) s) op.slot)
    (s := setDirectory (op.commits s.lib.directory) s) (slot := op.slot) fun p hp => by
      simp [setDirectory, hpress] at hp
  have hrelease (hk : op.kind ≠ .setFlags) :
      releaseOldChain op (chainOf s op.slot) ((setDirectory (op.commits s.lib.directory) s).withRcg { s.rcg with
        index := indexAfter s.rcg.index op.kind.news op.slot
          (committedNews (setDirectory (op.commits s.lib.directory) s) op.slot) }) =
      if op.kind = .setFlags ∨ chainOf s op.slot = [] then
        notified (.libDone op.tag op.kind op.slot false) (committed op s)
      else committed op s := by
    unfold committed LibOp.afterCommit releaseOldChain
    by_cases hold : chainOf s op.slot = []
    · rw [if_pos hold, if_pos (.inr hold), if_pos (.inr hold)]
      rfl
    · rw [if_neg hold, if_neg (by simp [hk, hold]), if_neg (by simp [hk, hold])]
  simp only [commitEvent, hop, if_pos (And.intro hph hdue), hnews]
  split
  · next hk =>
    rw [if_pos (.inl hk), committed, LibOp.afterCommit, if_pos (.inl hk)]
    rfl
  · next hk => exact hrelease (by simp [hk])
  · next hk => exact hrelease (by simp [hk])

theorem commitEvent_early (hop : s.lib.op = some op) (hnow : s.now < op.due) : commitEvent s = s := by
  simp [commitEvent, hop, not_le.2 hnow]

/-- The committed state by the directory that the commit leaves, its news, and the operation as it goes on. -/
theorem committed_of {d : List (Nat × DirEntry)} {kind : NewsKind} {news : Option (Record × SlotFlags)}
    {after : Option LibOp} (hd : op.commits s.lib.directory = d) (hkind : op.kind.news = kind)
    (hnews : (Table.get d op.slot).map (fun e => (Record.ofWire (chainBytes s.lib e), e.flags)) = news)
    (hafter : op.afterCommit (chainOf s op.slot) = after) :
    committed op s =
      { s with
        lib := { s.lib with directory := d, op := after }
        rcg := { s.rcg with index := indexAfter s.rcg.index kind op.slot news } } := by
  subst hd hkind hnews hafter
  rfl

theorem LibOp.commits_store (hk : op.kind = .store) (d : List (Nat × DirEntry)) :
    op.commits d = Table.set d op.slot op.entry := by simp [LibOp.commits, hk]

theorem LibOp.commits_erase (hk : op.kind = .erase) (d : List (Nat × DirEntry)) :
    op.commits d = Table.erase d op.slot := by simp [LibOp.commits, hk]

theorem LibOp.commits_setFlags (hk : op.kind = .setFlags) {d : List (Nat × DirEntry)} {e : DirEntry}
    (he : Table.get d op.slot = some e) : op.commits d = Table.set d op.slot { e with flags := op.flags } := by
  simp [LibOp.commits, hk, he]

theorem exec_commit (dt : Nat) (s : State) :
    exec (.commit dt) s = .next (settleStandby (commitEvent (advance dt s))) := rfl

end

/-- Settles O22: a due commit by its kind and the chain its slot had. -/
theorem commitReplacesEntry : Obligations.commitReplacesEntry := by
  intro dt op s u entry stored record hop hph hpress
  have hcommit (hdue : op.due ≤ u.now) := commitEvent_of_idle hop hph hdue hpress
  have hdone (hdue : op.due ≤ u.now) (hend : op.kind = .setFlags ∨ chainOf u op.slot = []) :
      exec (.commit dt) s = .next (notified (.libDone op.tag op.kind op.slot false) (committed op u)) := by
    rw [exec_commit, hcommit hdue, if_pos hend, settleStandby_notified]
  have hgoesOn (hdue : op.due ≤ u.now) (hmore : ¬(op.kind = .setFlags ∨ chainOf u op.slot = [])) :
      exec (.commit dt) s = .next (committed op u) := by
    have hbusy : (committed op u).lib.op ≠ none := by simp [committed, setOp, LibOp.afterCommit, hmore]
    rw [exec_commit, hcommit hdue, if_neg hmore, settleStandby_of_op hbusy]
  have hchainOf {old : DirEntry} (hold : Table.get u.lib.directory op.slot = some old) :
      chainOf u op.slot = old.chain := by rw [chainOf, hold]
  refine ⟨fun hk hdue hnone => ?_, fun old hk hdue hold hchain => ?_, fun old hk hdue hwf hold hchain => ?_,
    fun old hk hdue hold => ?_, fun hnow => ?_⟩
  · have hof : chainOf u op.slot = [] := by rw [chainOf, hnone]
    rw [hdone hdue (.inr hof), hk, committed_of (op.commits_store hk _) (by rw [hk])
      (by rw [Table.get_set_same]) (if_pos (.inr hof))]
    rfl
  · have hmore : ¬(op.kind = .setFlags ∨ chainOf u op.slot = []) := by simp [hchainOf hold, hk, hchain]
    rw [hgoesOn hdue hmore, committed_of (op.commits_store hk _) (by rw [hk]) (by rw [Table.get_set_same])
      (if_neg hmore), hchainOf hold]
    rfl
  · have hmore : ¬(op.kind = .setFlags ∨ chainOf u op.slot = []) := by simp [hchainOf hold, hk, hchain]
    rw [hgoesOn hdue hmore, committed_of (op.commits_erase hk _) (by rw [hk])
      (by rw [Table.get_erase_same hwf]) (if_neg hmore), hchainOf hold]
    rfl
  · rw [hdone hdue (.inl hk), hk, committed_of (op.commits_setFlags hk hold) (by rw [hk])
      (by rw [Table.get_set_same]) (if_pos (.inl hk))]
    rfl
  · rw [exec_commit, commitEvent_early hop hnow, settleStandby_of_op (by rw [hop]; simp)]

end Sys2Proof.Machine
end

section
/-! The programming and the erasing of segments, as commands (R19, R22, R23, R25). -/

namespace Sys2Proof.Machine

section
variable {s : State} {op : LibOp} {n m : Nat}

theorem exec_segmentVerify (dt : Nat) (agrees : Bool) (s : State) :
    exec (.segmentVerify dt agrees) s = .next (settleStandby (segmentVerifyEvent agrees (advance dt s))) := rfl

theorem segmentVerifyEvent_due (hop : s.lib.op = some op) (hph : op.phase = .programming n m) (hdue : op.due ≤ s.now)
    (agrees : Bool) :
    segmentVerifyEvent agrees s = if agrees then segmentAgrees op n m s else segmentDisagrees op n s := by
  simp [segmentVerifyEvent, hop, hph, hdue]

theorem segmentVerifyEvent_early (hop : s.lib.op = some op) (hnow : s.now < op.due) (agrees : Bool) :
    segmentVerifyEvent agrees s = s := by
  simp only [segmentVerifyEvent, hop, if_neg (not_le.2 hnow)]
  split <;> rfl

theorem exec_segmentErased (dt : Nat) (s : State) :
    exec (.segmentErased dt) s = .next (settleStandby (segmentErasedEvent (advance dt s))) := rfl

theorem segmentErasedEvent_early (hop : s.lib.op = some op) (hnow : s.now < op.due) : segmentErasedEvent s = s := by
  simp only [segmentErasedEvent, hop, if_neg (not_le.2 hnow)]
  split <;> rfl

/-- A segment of the new chain is erased, the release of a failed STORE (R23). -/
theorem segmentErasedEvent_new {seg : Nat} {rest : List Nat} (hop : s.lib.op = some op) (hph : op.phase = .releasing n m)
    (hdue : op.due ≤ s.now) (hnew : op.newChain = seg :: rest) :
    segmentErasedEvent s = releaseNext { op with newChain := rest } n m true (eraseSegment seg s) := by
  simp [segmentErasedEvent, hop, hph, hdue, hnew]

/-- A segment of the old chain is erased (R25). -/
theorem segmentErasedEvent_old {seg : Nat} {rest : List Nat} (hop : s.lib.op = some op) (hph : op.phase = .releasing n m)
    (hdue : op.due ≤ s.now) (hnew : op.newChain = []) (hold : op.oldChain = seg :: rest) :
    segmentErasedEvent s = releaseNext { op with oldChain := rest } n m false (eraseSegment seg s) := by
  simp [segmentErasedEvent, hop, hph, hdue, hnew, hold]

theorem releaseNext_last (hnew : op.newChain = []) (hold : op.oldChain = []) (fault : Bool) (s : State) :
    releaseNext op n m fault s = notified (.libDone op.tag op.kind op.slot fault) (setOp none s) := by
  rw [releaseNext, if_pos ⟨hnew, hold⟩]
  rfl

theorem releaseNext_more (h : ¬(op.newChain = [] ∧ op.oldChain = [])) (fault : Bool) (s : State) :
    settleStandby (releaseNext op n m fault s) =
      setOp (some { op with phase := .releasing (n + 1) m, due := op.due + eraseTime }) s := by
  rw [releaseNext, if_neg h]
  exact settleStandby_of_op (by simp [setOp])

end

/-- Settles O21: a verify by its answer and its segment, an erasure by the chain it leaves. -/
theorem segmentsProgrammedAndErased : Obligations.segmentsProgrammedAndErased := by
  constructor
  · intro dt n m op s u hop hph
    have hverify (agrees : Bool) (hdue : op.due ≤ u.now) : exec (.segmentVerify dt agrees) s =
        .next (if agrees then segmentAgrees op n m u else segmentDisagrees op n u) := by
      rw [exec_segmentVerify, segmentVerifyEvent_due hop hph hdue, settleStandby_of_op]
      cases agrees
      · simp [segmentDisagrees]
      · simp [segmentAgrees]
    refine ⟨fun hdue hlt => ?_, fun hdue heq => ?_, fun hdue => ?_, fun hnow agrees => ?_⟩
    · rw [hverify true hdue, if_pos rfl, segmentAgrees, if_pos hlt, if_pos hlt]
      rfl
    · have hlast : ¬n < m := by omega
      rw [hverify true hdue, if_pos rfl, segmentAgrees, if_neg hlast, if_neg hlast]
      rfl
    · exact hverify false hdue
    · rw [exec_segmentVerify, segmentVerifyEvent_early hop hnow, settleStandby_of_op (by rw [hop]; simp)]
  · intro dt n m seg op s u erased hop hph
    refine ⟨fun next rest hdue hnew hold => ?_, fun hdue hnew hold => ?_, fun next rest hdue hnew => ?_,
      fun hdue hnew hold => ?_, fun k hk => Table.get_erase_other _ hk, fun hnow => ?_⟩
    · rw [exec_segmentErased, segmentErasedEvent_old hop hph hdue hnew hold, releaseNext_more (by simp)]
      rfl
    · rw [exec_segmentErased, segmentErasedEvent_old hop hph hdue hnew hold, releaseNext_last (by exact hnew) rfl,
        settleStandby_notified]
      rfl
    · rw [exec_segmentErased, segmentErasedEvent_new hop hph hdue hnew, releaseNext_more (by simp)]
      rfl
    · rw [exec_segmentErased, segmentErasedEvent_new hop hph hdue hnew, releaseNext_last rfl (by exact hold),
        settleStandby_notified]
      rfl
    · rw [exec_segmentErased, segmentErasedEvent_early hop hnow, settleStandby_of_op (by rw [hop]; simp)]

end Sys2Proof.Machine
end

section
/-! What a cut leaves of the directory and the pool, by the phase or the stage that it cuts (R33, R35, R36, Table 3-5). -/

namespace Sys2Proof.Machine

section
variable {s t : State}

theorem cutMount_repairing {slot due n k : Nat} {rest : List Nat}
    (hm : s.lib.mount = some ⟨.repairing (slot :: rest) due, n, k⟩) :
    cutMount s = commitCut (Table.erase s.lib.directory slot) s := by simp [cutMount, hm]

theorem cutMount_reclaiming {seg due n k : Nat} {rest : List Nat}
    (hm : s.lib.mount = some ⟨.reclaiming (seg :: rest) due, n, k⟩) : cutMount s = spoil seg s := by
  simp [cutMount, hm]

/-- With mount ended, a cut is that of the operation. -/
theorem cutLibrary_mounted (hm : s.lib.mount = none) : cutLibrary s = cutOperation s := by
  obtain ⟨hmount, -, -⟩ := cutOperation_cases s
  rw [cutLibrary, cutMount_none (hmount.trans hm)]

/-- With no operation in flight, a cut is that of the mount. -/
theorem cutLibrary_idle (hop : s.lib.op = none) : cutLibrary s = cutMount s := by
  rw [cutLibrary, cutOperation_none hop]

/-- Power loss, RSTN and RESET cut the library as it was found. -/
theorem lib_of_cut {dt : Nat} {straps : Straps} {tag : Byte} {c : Instr} (hc :
    (c = .powerLoss dt ∧ (advance dt s).pins.powered = true) ∨
      (c = .rstnAsserted dt straps ∧ (advance dt s).pins.powered = true ∧ (advance dt s).pins.rstnLow = false) ∨
      (c = .reset dt tag ∧ PortOpen (advance dt s))) (h : exec c s = .next t) :
    ∃ v : State, v.lib = (advance dt s).lib ∧ ∃ stage, t.lib = (cutLibrary v).lib.remounted stage := by
  have hsettled {u : State} (hu : u.opc.state = .mounting) : (settleStandby u).lib = u.lib := by
    rw [settleStandby_of_ne (by simp [hu])]
  rcases hc with ⟨rfl, hpow⟩ | ⟨rfl, hpow, hrst⟩ | ⟨rfl, hopen⟩
  · obtain rfl : settleStandby (powerLossEvent (advance dt s)) = t := by simpa [exec, execPowerLoss, event] using h
    refine ⟨advance dt s, rfl, .notBegun, ?_⟩
    rw [powerLossEvent, if_pos hpow, hsettled rfl]
    rfl
  · obtain rfl : settleStandby (rstnAssertedEvent straps (advance dt s)) = t := by
      simpa [exec, execRstnAsserted, event] using h
    refine ⟨advance dt s, rfl, .notBegun, ?_⟩
    rw [rstnAssertedEvent, if_neg (by simp [hrst]), if_pos hpow, hsettled rfl]
    rfl
  · obtain rfl : settleStandby (hostRequest .reset tag [] (advance dt s)) = t := by simpa [exec, execReset, event] using h
    refine ⟨found (advance dt s), rfl, .scanning scanTime, ?_⟩
    rw [hostRequest_reset hopen, hsettled rfl]
    rfl

end

/-- Settles O12: the cut of each phase of the operation and each stage of the mount. -/
theorem cutLeavesLibrary : Obligations.cutLeavesLibrary := by
  intro dt straps tag c s t u htables hc hexec
  obtain ⟨hwf, -, -, -⟩ := htables
  obtain ⟨v, hv, stage, ht⟩ := lib_of_cut hc hexec
  have hdir : t.lib.directory = (cutLibrary v).lib.directory := by rw [ht]; rfl
  have hpool : t.lib.pool = (cutLibrary v).lib.pool := by rw [ht]; rfl
  change v.lib = u.lib at hv
  rw [hdir, hpool]
  rw [← hv] at hwf ⊢
  have hspoil (seg : Nat) : Table.get (Table.set v.lib.pool seg .spoiled) seg = some .spoiled ∧
      ∀ k, k ≠ seg → Table.get (Table.set v.lib.pool seg .spoiled) k = Table.get v.lib.pool k :=
    ⟨Table.get_set_same .., fun k hk => Table.get_set_other _ _ hk⟩
  refine ⟨fun hop hm => ?_, fun op n m hop hm hph => ?_, fun op hop hm hph => ?_, fun op n m seg hop hm hph hseg => ?_,
    fun slot rest due n k hop hm => ?_, fun seg rest due n k hop hm => ?_⟩
  · rw [cutLibrary_mounted hm, cutOperation_none hop]
    exact ⟨rfl, rfl⟩
  · rw [cutLibrary_mounted hm, cutOperation_programming hop hph]
    exact ⟨rfl, hspoil _⟩
  · rw [cutLibrary_mounted hm, cutOperation_committing hop hph]
    refine ⟨commitCut_pool _ _, ?_⟩
    rcases commitCut_cases (op.commits v.lib.directory) v with h | h <;> rw [h]
    · exact ⟨fun k hk => get_commits_other op _ hk, .inr (get_commits_same hwf op)⟩
    · exact ⟨fun _ _ => rfl, .inl rfl⟩
  · rw [cutLibrary_mounted hm, cutOperation_releasing hop hph hseg]
    exact ⟨rfl, hspoil _⟩
  · rw [cutLibrary_idle hop, cutMount_repairing hm]
    exact ⟨commitCut_pool _ _, commitCut_directory _ _⟩
  · rw [cutLibrary_idle hop, cutMount_reclaiming hm]
    exact ⟨rfl, hspoil _⟩

end Sys2Proof.Machine
end

section
/-! The requests of the library: refused by their first failing condition, or taken (R20, R21, R26, R27, R29, R30). -/

namespace Sys2Proof.Machine

section
variable {dt : Nat} {tag : Byte} {s : State}

/-! ### What the port passes to the owner (R158 to R161) -/

/-- A request that the port can take is passed to its owner in its step. -/
theorem event_of_ready {k : ReqKind} {p : List Byte} (h : PortReady k (advance dt s)) (hk : k ≠ .standby)
    (hp : lengthFits k p = true) :
    event dt (hostRequest k tag p) s =
      .next (settleStandby (own (advance dt s).opc.state k tag p (found (advance dt s)))) := by
  rw [event, hostRequest_of_ready h tag p hp, if_neg hk]

theorem exec_store_of_ready {p : List Byte} (h : PortReady .store (advance dt s)) (hmin : 8 ≤ p.length)
    (hmax : p.length ≤ 270) :
    exec (.store dt tag p) s = .next (settleStandby (ownStore tag p (found (advance dt s)))) :=
  event_of_ready h (by simp) (by simp [lengthFits, ReqKind.lengths, hmin, hmax])

theorem exec_erase_of_ready {slot : Byte} (h : PortReady .erase (advance dt s)) :
    exec (.erase dt tag slot) s = .next (settleStandby (ownErase tag [slot] (found (advance dt s)))) :=
  event_of_ready h (by simp) rfl

theorem exec_setCodeFlags_of_ready {slot flags : Byte} (h : PortReady .setCodeFlags (advance dt s)) :
    exec (.setCodeFlags dt tag slot flags) s =
      .next (settleStandby (ownSetCodeFlags tag [slot, flags] (found (advance dt s)))) :=
  event_of_ready h (by simp) rfl

theorem exec_readCode_of_ready {slot : Byte} (h : PortReady .readCode (advance dt s)) :
    exec (.readCode dt tag slot) s = .next (settleStandby (ownReadCode tag [slot] (found (advance dt s)))) :=
  event_of_ready h (by simp) rfl

theorem exec_listCodes_of_ready {first count : Byte} (h : PortReady .listCodes (advance dt s)) :
    exec (.listCodes dt tag first count) s =
      .next (settleStandby (ownListCodes tag [first, count] (found (advance dt s)))) :=
  event_of_ready h (by simp) rfl

end

/-! ### The checks of ERASE and SET_CODE_FLAGS -/

theorem SlotFlags.ofByte_eq {b : Byte} (h : b.toNat < 8) :
    SlotFlags.ofByte b = some { recognize := b.getLsbD 0, notify := b.getLsbD 1, wake := b.getLsbD 2 } := if_pos h

theorem SlotFlags.ofByte_eq_none {b : Byte} (h : 8 ≤ b.toNat) : SlotFlags.ofByte b = none := if_neg (not_lt.2 h)

section
variable {s : State} {slot : Nat}

theorem changeRefusal_busy (h : s.lib.op ≠ none) : changeRefusal s slot = some .libBusy :=
  if_pos (Option.isSome_iff_ne_none.2 h)

theorem changeRefusal_empty (h : s.lib.op = none) (hslot : Table.get s.lib.directory slot = none) :
    changeRefusal s slot = some .noCode := by simp [changeRefusal, h, hslot]

theorem changeRefusal_none (h : s.lib.op = none) (hslot : Table.get s.lib.directory slot ≠ none) :
    changeRefusal s slot = none := by simp [changeRefusal, h, hslot]

end

section
variable {s : State} {slot flags : Byte} (tag : Byte)

theorem ownErase_refused {st : Status} (hslot : slot.toNat < 128) (h : changeRefusal s slot.toNat = some st) :
    ownErase tag [slot] s = replyStatus tag st s := by
  simp [ownErase, byteAt, slotCount, hslot, h]

theorem ownErase_accepted (hslot : slot.toNat < 128) (h : changeRefusal s slot.toNat = none) :
    ownErase tag [slot] s = beginCommit .erase slot.toNat SlotFlags.clear tag (replyStatus tag .accepted s) := by
  simp [ownErase, byteAt, slotCount, hslot, h]

theorem ownErase_badSlot (hslot : 128 ≤ slot.toNat) : ownErase tag [slot] s = replyStatus tag .badArgument s :=
  if_neg (not_lt.2 hslot)

theorem ownSetCodeFlags_refused {st : Status} (hslot : slot.toNat < 128) (hflags : flags.toNat < 8)
    (h : changeRefusal s slot.toNat = some st) : ownSetCodeFlags tag [slot, flags] s = replyStatus tag st s := by
  simp [ownSetCodeFlags, byteAt, SlotFlags.ofByte_eq hflags, slotCount, hslot, h]

theorem ownSetCodeFlags_accepted (hslot : slot.toNat < 128) (hflags : flags.toNat < 8)
    (h : changeRefusal s slot.toNat = none) :
    ownSetCodeFlags tag [slot, flags] s =
      beginCommit .setFlags slot.toNat
        { recognize := flags.getLsbD 0, notify := flags.getLsbD 1, wake := flags.getLsbD 2 } tag
        (replyStatus tag .accepted s) := by
  simp [ownSetCodeFlags, byteAt, SlotFlags.ofByte_eq hflags, slotCount, hslot, h]

theorem ownSetCodeFlags_badArgument (h : 128 ≤ slot.toNat ∨ 8 ≤ flags.toNat) :
    ownSetCodeFlags tag [slot, flags] s = replyStatus tag .badArgument s := by
  by_cases hflags : flags.toNat < 8
  · have hslot : ¬slot.toNat < slotCount := not_lt.2 (h.resolve_right (not_le.2 hflags))
    simp [ownSetCodeFlags, byteAt, SlotFlags.ofByte_eq hflags, hslot]
  · simp [ownSetCodeFlags, byteAt, SlotFlags.ofByte_eq_none (not_lt.1 hflags)]

end

theorem settleStandby_beginCommit (kind : LibKind) (slot : Nat) (flags : SlotFlags) (tag : Byte) (s : State) :
    settleStandby (beginCommit kind slot flags tag s) = beginCommit kind slot flags tag s :=
  settleStandby_of_op (by simp [beginCommit, setOp])

/-- Settles O24: each request by its first failing condition. -/
theorem eraseAndFlagsBeginCommit : Obligations.eraseAndFlagsBeginCommit := by
  intro dt tag slot flags s u committing
  constructor
  · intro hready
    rw [exec_erase_of_ready hready]
    refine ⟨fun hslot => ?_, fun hslot hop => ?_, fun hslot hop hnone => ?_, fun hslot hop hsome => ?_⟩
    · rw [ownErase_badSlot tag hslot, replyStatus_found, settleStandby_answered]
    · rw [ownErase_refused tag hslot (changeRefusal_busy (s := found u) hop), replyStatus_found, settleStandby_answered]
    · rw [ownErase_refused tag hslot (changeRefusal_empty (s := found u) hop hnone), replyStatus_found, settleStandby_answered]
    · rw [ownErase_accepted tag hslot (changeRefusal_none (s := found u) hop hsome), settleStandby_beginCommit]
      rfl
  · intro hready
    rw [exec_setCodeFlags_of_ready hready]
    refine ⟨fun hbad => ?_, fun hslot hflags hop => ?_, fun hslot hflags hop hnone => ?_,
      fun hslot hflags hop hsome => ?_⟩
    · rw [ownSetCodeFlags_badArgument tag hbad, replyStatus_found, settleStandby_answered]
    · rw [ownSetCodeFlags_refused tag hslot hflags (changeRefusal_busy (s := found u) hop), replyStatus_found, settleStandby_answered]
    · rw [ownSetCodeFlags_refused tag hslot hflags (changeRefusal_empty (s := found u) hop hnone), replyStatus_found,
        settleStandby_answered]
    · rw [ownSetCodeFlags_accepted tag hslot hflags (changeRefusal_none (s := found u) hop hsome), settleStandby_beginCommit]
      rfl

/-! ### READ_CODE and LIST_CODES -/

theorem length_slotSummary (l : Lib) (slot : Nat) : (slotSummary l slot).length = 10 := by
  unfold slotSummary
  split
  · rfl
  · simp

section
variable {s : State} {slot first count : Byte} (tag : Byte)

theorem ownReadCode_badSlot (hslot : 128 ≤ slot.toNat) : ownReadCode tag [slot] s = replyStatus tag .badArgument s :=
  if_neg (not_lt.2 hslot)

theorem ownReadCode_empty (hslot : slot.toNat < 128) (h : Table.get s.lib.directory slot.toNat = none) :
    ownReadCode tag [slot] s = replyStatus tag .noCode s := by
  simp [ownReadCode, byteAt, slotCount, hslot, h]

theorem ownReadCode_valid {e : DirEntry} (hslot : slot.toNat < 128) (h : Table.get s.lib.directory slot.toNat = some e) :
    ownReadCode tag [slot] s = reply tag .ok ([slot, e.flags.toByte] ++ chainBytes s.lib e) s := by
  simp [ownReadCode, byteAt, slotCount, hslot, h]

theorem ownListCodes_badArgument (h : 128 ≤ first.toNat ∨ count = 0 ∨ 30 ≤ count.toNat) :
    ownListCodes tag [first, count] s = replyStatus tag .badArgument s := by
  refine if_neg ?_
  rintro ⟨hfirst, hmin, hmax⟩
  rcases h with h | rfl | h
  · exact absurd hfirst (not_lt.2 h)
  · simp [byteAt] at hmin
  · exact absurd hmax (not_le.2 h)

theorem ownListCodes_listed (hfirst : first.toNat < 128) (hmin : 1 ≤ count.toNat) (hmax : count.toNat ≤ 29) :
    ownListCodes tag [first, count] s =
      reply tag .ok (byte (min count.toNat (128 - first.toNat)) ::
        (List.range (min count.toNat (128 - first.toNat))).flatMap fun i => slotSummary s.lib (first.toNat + i)) s := by
  refine (if_pos ⟨hfirst, hmin, hmax⟩).trans ?_
  simp [listedSlots, List.flatMap_map, slotCount, byteAt]

end

/-- Settles O25: each reading by its arguments. -/
theorem codesReadBack : Obligations.codesReadBack := by
  intro dt tag slot first count s u summary
  have hsummary (k : Nat) : summary k = slotSummary u.lib k := by
    simp only [summary, slotSummary]
    cases Table.get u.lib.directory k <;> rfl
  refine ⟨fun hready => ?_, fun hready => ?_, fun k => hsummary k ▸ length_slotSummary u.lib k⟩
  · rw [exec_readCode_of_ready hready]
    refine ⟨fun hslot => ?_, fun hslot hnone => ?_, fun e hslot he => ?_⟩
    · rw [ownReadCode_badSlot tag hslot, replyStatus_found, settleStandby_answered]
    · rw [ownReadCode_empty (s := found u) tag hslot hnone, replyStatus_found, settleStandby_answered]
    · rw [ownReadCode_valid (s := found u) tag hslot he, reply_found, settleStandby_answered]
      rfl
  · rw [exec_listCodes_of_ready hready]
    refine ⟨fun hbad => ?_, fun hfirst hmin hmax => ?_⟩
    · rw [ownListCodes_badArgument tag hbad, replyStatus_found, settleStandby_answered]
    · rw [ownListCodes_listed tag hfirst hmin hmax, reply_found, settleStandby_answered]
      simp only [hsummary]
      rfl

end Sys2Proof.Machine
end

section
/-! STORE by the first of its conditions that fails (R20, R21, R174). -/

namespace Sys2Proof.Machine

section
variable {s : State} {p : List Byte} {r : Record}

/-- The argument checks of a STORE: its slot, its flags, its source, and the overrides of that source (R175). -/
def StoreArguments (p : List Byte) : Prop :=
  (byteAt p 0).toNat < 128 ∧ (byteAt p 1).toNat < 8 ∧ overridesOk p = true

theorem overridesOk_iff : overridesOk p = true ↔
    (byteAt p 2 = 0x00 ∧ byteAt p 3 = 0x00) ∨ (byteAt p 2 = 0x01 ∧ (byteAt p 3).toNat < 8) := by
  unfold overridesOk
  split
  · next h => simp [h]
  · next h => simp only [Bool.and_eq_true, beq_iff_eq, decide_eq_true_eq, h, false_and, false_or]

theorem storeArguments_iff : StoreArguments p ↔
    ¬(128 ≤ (byteAt p 0).toNat ∨ 8 ≤ (byteAt p 1).toNat ∨ 2 ≤ (byteAt p 2).toNat ∨
      (byteAt p 2 = 0x00 ∧ byteAt p 3 ≠ 0x00) ∨ (byteAt p 2 = 0x01 ∧ 8 ≤ (byteAt p 3).toNat)) := by
  have hsource : overridesOk p = true ↔ ¬(2 ≤ (byteAt p 2).toNat ∨ (byteAt p 2 = 0x00 ∧ byteAt p 3 ≠ 0x00) ∨
      (byteAt p 2 = 0x01 ∧ 8 ≤ (byteAt p 3).toNat)) := by
    have hzero (i : Nat) : byteAt p i = 0x00 ↔ (byteAt p i).toNat = 0 := by rw [← BitVec.toNat_inj]; rfl
    have hone : byteAt p 2 = 0x01 ↔ (byteAt p 2).toNat = 1 := by rw [← BitVec.toNat_inj]; rfl
    rw [overridesOk_iff, Ne, hzero, hzero, hone]
    omega
  rw [StoreArguments, hsource]
  simp only [not_or, not_le]

theorem storeSource_badArguments (h : ¬StoreArguments p) : storeSource s p = .error (.badArgument, []) := by
  unfold storeSource
  split
  · rfl
  · next flags hflags =>
    refine if_neg fun hok => h ⟨hok.1, ?_, hok.2⟩
    by_contra hhigh
    simp [SlotFlags.ofByte_eq_none (not_lt.1 hhigh)] at hflags

/-- The record that a STORE names: inline, or staged with its overrides. -/
def namedRecord (s : State) (p : List Byte) : Option Record :=
  if byteAt p 2 = 0x00 then some (Record.ofWire (p.drop 4)) else s.lrn.staged.map fun r => withOverrides r p

theorem namedRecord_eq_some (h : (byteAt p 2 = 0x00 ∧ r = Record.ofWire (p.drop 4)) ∨
    (byteAt p 2 = 0x01 ∧ s.lrn.staged.map (withOverrides · p) = some r)) : namedRecord s p = some r := by
  rcases h with ⟨hinline, rfl⟩ | ⟨hstaged, hr⟩
  · exact if_pos hinline
  · exact (if_neg (by simp [hstaged])).trans hr

theorem storeSource_noStaged (h : StoreArguments p) (hnone : namedRecord s p = none) :
    storeSource s p = .error (.noStaged, []) := by
  obtain ⟨hslot, hflags, hover⟩ := h
  rw [storeSource, SlotFlags.ofByte_eq hflags]
  refine (if_pos ⟨hslot, hover⟩).trans ?_
  rw [namedRecord] at hnone
  simp only [hnone]

theorem storeSource_badRecord {field item : Nat} (h : StoreArguments p) (hr : namedRecord s p = some r)
    (hfault : recordFault r = some (field, item)) :
    storeSource s p = .error (.badRecord, [byte field, byte item]) := by
  obtain ⟨hslot, hflags, hover⟩ := h
  rw [storeSource, SlotFlags.ofByte_eq hflags]
  refine (if_pos ⟨hslot, hover⟩).trans ?_
  rw [namedRecord] at hr
  simp only [hr, hfault]

theorem storeSource_ok (h : StoreArguments p) (hr : namedRecord s p = some r) (hvalid : recordFault r = none) :
    storeSource s p = .ok
      ({ recognize := (byteAt p 1).getLsbD 0, notify := (byteAt p 1).getLsbD 1, wake := (byteAt p 1).getLsbD 2 }, r) := by
  obtain ⟨hslot, hflags, hover⟩ := h
  rw [storeSource, SlotFlags.ofByte_eq hflags]
  refine (if_pos ⟨hslot, hover⟩).trans ?_
  rw [namedRecord] at hr
  simp only [hr, hvalid]

/-! ### The answers of the owner -/

theorem ownStore_disagrees (tag : Byte) (h : payloadAgrees .store p = false) :
    ownStore tag p s = replyStatus tag .badLength s := by
  simp [ownStore, h]

theorem ownStore_error (tag : Byte) {st : Status} {more : List Byte} (h : payloadAgrees .store p = true)
    (hsource : storeSource s p = .error (st, more)) : ownStore tag p s = reply tag st more s := by
  simp [ownStore, h, hsource]

theorem ownStore_ok (tag : Byte) {flags : SlotFlags} (h : payloadAgrees .store p = true)
    (hsource : storeSource s p = .ok (flags, r)) :
    ownStore tag p s =
      if s.lib.op.isSome then replyStatus tag .libBusy s
      else if s.lib.free.length < storedSize r.wireSize then replyStatus tag .noSpace s
      else beginStore (byteAt p 0).toNat flags r tag (replyStatus tag .accepted s) := by
  simp [ownStore, h, hsource]

end

/-- Settles O19: a STORE by the first of its conditions that fails. -/
theorem storeAcceptedOrRefused : Obligations.storeAcceptedOrRefused := by
  intro dt tag p r s u flags m badFields named hready hmin hmax
  rw [exec_store_of_ready hready hmin hmax]
  have hargs : ¬badFields → StoreArguments p := storeArguments_iff.2
  have hok (hagrees : payloadAgrees .store p = true) (hgood : ¬badFields) (hnamed : named)
      (hvalid : recordFault r = none) :=
    ownStore_ok (s := found u) tag hagrees (storeSource_ok (hargs hgood) (namedRecord_eq_some hnamed) hvalid)
  refine ⟨fun hno => ?_, fun hagrees hbad => ?_, fun hagrees hgood hstaged hnone => ?_,
    fun field item hagrees hgood hnamed hfault => ?_, fun hagrees hgood hnamed hvalid hop => ?_,
    fun hagrees hgood hnamed hvalid hop hspace => ?_, fun hagrees hgood hnamed hvalid hop hspace => ?_⟩
  · rw [ownStore_disagrees tag hno, replyStatus_found, settleStandby_answered]
  · rw [ownStore_error tag hagrees (storeSource_badArguments fun h => storeArguments_iff.1 h hbad), reply_found,
      settleStandby_answered]
  · have hnamed : namedRecord (found u) p = none := by
      rw [namedRecord, if_neg (by simp [hstaged])]
      exact congrArg _ hnone
    rw [ownStore_error tag hagrees (storeSource_noStaged (hargs hgood) hnamed), reply_found, settleStandby_answered]
  · rw [ownStore_error tag hagrees (storeSource_badRecord (hargs hgood) (namedRecord_eq_some (s := found u) hnamed) hfault),
      reply_found, settleStandby_answered]
  · rw [hok hagrees hgood hnamed hvalid, if_pos (by exact Option.isSome_iff_ne_none.2 hop), replyStatus_found,
      settleStandby_answered]
  · have hidle : ¬(found u).lib.op.isSome = true := by simp [found, hop]
    rw [hok hagrees hgood hnamed hvalid, if_neg hidle, if_pos (by exact hspace), replyStatus_found,
      settleStandby_answered]
  · have hidle : ¬(found u).lib.op.isSome = true := by simp [found, hop]
    rw [hok hagrees hgood hnamed hvalid, if_neg hidle, if_neg (by exact not_lt.2 hspace),
      settleStandby_of_op (by simp [beginStore])]
    rfl

end Sys2Proof.Machine
end

section
/-! The stages of mount as commands (R34 to R37, R60, R81, R182). -/

namespace Sys2Proof.Machine

section
variable {s : State} {due n k : Nat}

theorem exec_mountScanComplete (dt : Nat) (decayed : List (Nat × List Byte)) (s : State) :
    exec (.mountScanComplete dt decayed) s = .next (settleStandby (scanCompleteEvent decayed (advance dt s))) := rfl

theorem exec_mountRepairCommit (dt : Nat) (s : State) :
    exec (.mountRepairCommit dt) s = .next (settleStandby (repairCommitEvent (advance dt s))) := rfl

theorem exec_mountReclaimErase (dt : Nat) (s : State) :
    exec (.mountReclaimErase dt) s = .next (settleStandby (reclaimEraseEvent (advance dt s))) := rfl

theorem settleStandby_of_mounting (h : s.opc.state = .mounting) : settleStandby s = s :=
  settleStandby_of_ne (by simp [h])

/-! ### Each stage at its moment -/

/-- The scan finds slots to be repaired (R34, R35). -/
theorem scanCompleteEvent_repairs (decayed : List (Nat × List Byte)) (hm : s.lib.mount = some ⟨.scanning due, n, k⟩)
    (hdue : due ≤ s.now) (h : failedSlots { s.lib with pool := decay decayed s.lib.pool } ≠ []) :
    scanCompleteEvent decayed s =
      setMount (.repairing (failedSlots { s.lib with pool := decay decayed s.lib.pool }) (due + commitTime)) 0 0
        (s.withLib { s.lib with pool := decay decayed s.lib.pool }) := by
  simp only [scanCompleteEvent, hm, if_pos hdue, State.withLib_lib]
  split
  · next hnil => exact absurd hnil h
  · rfl

/-- The scan finds every slot sound (R34, R36). -/
theorem scanCompleteEvent_sound (decayed : List (Nat × List Byte)) (hm : s.lib.mount = some ⟨.scanning due, n, k⟩)
    (hdue : due ≤ s.now) (h : failedSlots { s.lib with pool := decay decayed s.lib.pool } = []) :
    scanCompleteEvent decayed s = beginReclaim due 0 (s.withLib { s.lib with pool := decay decayed s.lib.pool }) := by
  simp only [scanCompleteEvent, hm, if_pos hdue, State.withLib_lib] at h ⊢
  simp only [h]

/-- The reclaim begins with the leftovers to be erased (R36). -/
theorem beginReclaim_leftovers {l : Lib} (moment repaired : Nat) (h : leftovers l ≠ []) :
    beginReclaim moment repaired (s.withLib l) =
      s.withLib { l with
        free := erasedSegments l
        mount := some { stage := .reclaiming (leftovers l) (moment + eraseTime), repaired := repaired, reclaimed := 0 } } := by
  unfold beginReclaim
  simp only [State.withLib_lib, State.withLib_withLib, setMount, leftovers_of_free]

/-- With nothing left over, mount ends (R37). -/
theorem beginReclaim_ends {l : Lib} (moment repaired : Nat) (h : leftovers l = []) :
    beginReclaim moment repaired (s.withLib l) =
      mountEnds repaired 0 (s.withLib { l with free := erasedSegments l }) := by
  unfold beginReclaim
  simp only [State.withLib_lib, State.withLib_withLib, leftovers_of_free, h]

theorem repairCommitEvent_next {slot next : Nat} {rest : List Nat}
    (hm : s.lib.mount = some ⟨.repairing (slot :: next :: rest) due, n, k⟩) (hdue : due ≤ s.now) :
    repairCommitEvent s =
      setMount (.repairing (next :: rest) (due + commitTime)) (n + 1) 0
        (setDirectory (Table.erase s.lib.directory slot) s) := by
  simp only [repairCommitEvent, hm, if_pos hdue]

theorem repairCommitEvent_last {slot : Nat} (hm : s.lib.mount = some ⟨.repairing [slot] due, n, k⟩) (hdue : due ≤ s.now) :
    repairCommitEvent s = beginReclaim due (n + 1) (setDirectory (Table.erase s.lib.directory slot) s) := by
  simp only [repairCommitEvent, hm, if_pos hdue]

theorem reclaimEraseEvent_next {seg next : Nat} {rest : List Nat}
    (hm : s.lib.mount = some ⟨.reclaiming (seg :: next :: rest) due, n, k⟩) (hdue : due ≤ s.now) :
    reclaimEraseEvent s = setMount (.reclaiming (next :: rest) (due + eraseTime)) n (k + 1) (eraseSegment seg s) := by
  simp only [reclaimEraseEvent, hm, if_pos hdue]

theorem reclaimEraseEvent_last {seg : Nat} (hm : s.lib.mount = some ⟨.reclaiming [seg] due, n, k⟩) (hdue : due ≤ s.now) :
    reclaimEraseEvent s = mountEnds n (k + 1) (eraseSegment seg s) := by
  simp only [reclaimEraseEvent, hm, if_pos hdue]

/-- The moment at which a stage of mount ends. -/
def MountStage.moment : MountStage → Option Nat
  | .notBegun => none
  | .scanning due => some due
  | .repairing _ due => some due
  | .reclaiming _ due => some due

theorem mountEvents_early {m : Mount} (hm : s.lib.mount = some m) (h : ∀ due, m.stage.moment = some due → s.now < due)
    (decayed : List (Nat × List Byte)) :
    scanCompleteEvent decayed s = s ∧ repairCommitEvent s = s ∧ reclaimEraseEvent s = s := by
  obtain ⟨stage, n, k⟩ := m
  have hearly {due : Nat} (hd : stage.moment = some due) : ¬due ≤ s.now := not_le.2 (h due hd)
  cases stage with
  | notBegun => simp [scanCompleteEvent, repairCommitEvent, reclaimEraseEvent, hm]
  | scanning due => simp [scanCompleteEvent, repairCommitEvent, reclaimEraseEvent, hm, hearly rfl]
  | repairing slots due => cases slots <;> simp [scanCompleteEvent, repairCommitEvent, reclaimEraseEvent, hm, hearly rfl]
  | reclaiming segs due => cases segs <;> simp [scanCompleteEvent, repairCommitEvent, reclaimEraseEvent, hm, hearly rfl]

end

/-- The state in which mount ends with a library, its counts told in READY (R37, R60, R81, R182). -/
def mountEnded (l : Lib) (repaired reclaimed : Nat) (s : State) : State :=
  notified (.ready s.opc.cause repaired reclaimed)
    { s with
      lib := { l with mount := none }
      rcg := { s.rcg with index := buildIndex l }
      cap := { s.cap with sense := s.cap.sense.enterIdle .sense s.opc.params s.cap.rxs }
      opc := { s.opc with state := .awake }
      link := { s.link with state := .idle } }

/-- Without the masking condition the SENSE context enters IDLE at the end of mount (R60). -/
theorem mountEnds_unmasked {s : State} (hmask : maskingPresent s = false) (l : Lib) (repaired reclaimed : Nat) :
    mountEnds repaired reclaimed (s.withLib l) = mountEnded l repaired reclaimed s := by
  have hcontext {u : State} (hu : u.channels = s.channels) :
      senseContextMounted u = setCtx u .sense ((ctxOf u .sense).enterIdle .sense u.opc.params u.cap.rxs) := by
    have hmask' : maskingPresent u = false := by simpa [maskingPresent, hu] using hmask
    simp [senseContextMounted, hmask']
  unfold mountEnds
  dsimp only
  rw [hcontext]
  · rfl
  · rfl

/-- Settles O17: each stage at its moment and before it, and the end of mount from each stage. -/
theorem mountRunsItsStages : Obligations.mountRunsItsStages := by
  constructor
  · intro dt due n k decayed s u hmounting
    refine ⟨fun slots hm hdue hslots hne => ?_, fun segs hm hdue hnone hsegs hne => ?_, fun slot next rest hm hdue => ?_,
      fun slot segs hm hdue hsegs hne => ?_, fun seg next rest hm hdue => ?_, fun stage hm hstage hnow => ?_⟩
    · subst hslots
      rw [exec_mountScanComplete, scanCompleteEvent_repairs decayed hm hdue hne]
      exact congrArg _ (settleStandby_of_mounting hmounting)
    · subst hsegs
      rw [exec_mountScanComplete, scanCompleteEvent_sound decayed hm hdue hnone, beginReclaim_leftovers due 0 hne]
      exact congrArg _ (settleStandby_of_mounting hmounting)
    · rw [exec_mountRepairCommit, repairCommitEvent_next hm hdue]
      exact congrArg _ (settleStandby_of_mounting hmounting)
    · subst hsegs
      rw [exec_mountRepairCommit, repairCommitEvent_last hm hdue, setDirectory, beginReclaim_leftovers due (n + 1) hne]
      exact congrArg _ (settleStandby_of_mounting hmounting)
    · rw [exec_mountReclaimErase, reclaimEraseEvent_next hm hdue]
      exact congrArg _ (settleStandby_of_mounting hmounting)
    · have hmoment : ∀ d, stage.moment = some d → u.now < d := by
        rintro d hd
        rcases hstage with rfl | rfl | ⟨l, rfl⟩ | ⟨l, rfl⟩
        · simp [MountStage.moment] at hd
        all_goals exact Option.some.inj hd ▸ hnow
      obtain ⟨hscan, hrepair, hreclaim⟩ := mountEvents_early hm hmoment decayed
      rw [exec_mountScanComplete, exec_mountRepairCommit, exec_mountReclaimErase, hscan, hrepair, hreclaim,
        settleStandby_of_mounting hmounting]
      exact ⟨rfl, rfl, rfl⟩
  · intro dt due n k decayed s u ended hmask
    have hended (l : Lib) (n k : Nat) : settleStandby (mountEnds n k (u.withLib l)) = ended l n k := by
      rw [mountEnds_unmasked hmask, mountEnded, settleStandby_notified]
    refine ⟨fun seg hm hdue => ?_, fun slot hm hdue hnone => ?_, fun hm hdue hsound hnone => ?_, fun slot e hwf => ?_⟩
    · rw [exec_mountReclaimErase, reclaimEraseEvent_last hm hdue, eraseSegment, hended]
    · rw [exec_mountRepairCommit, repairCommitEvent_last hm hdue, setDirectory, beginReclaim_ends due (n + 1) hnone, hended]
    · rw [exec_mountScanComplete, scanCompleteEvent_sound decayed hm hdue hsound, beginReclaim_ends due 0 hnone, hended]
    · rw [get_buildIndex hwf, Option.bind_eq_some_iff]
      refine exists_congr fun d => and_congr_right fun _ => ?_
      by_cases hr : d.flags.recognize = true
      · simp [indexed, hr, eq_comm]
      · simp [indexed, hr]

end Sys2Proof.Machine
end

section
/-! The capture contexts (R40 to R51): what an edge makes of a context in each state, when its timed events fall due, and
what each event does once it is due and before. -/

namespace Sys2Proof.Machine

/-! ### A context in the state -/

section
variable (s : State) (i : Source) (x : Context)

@[simp] theorem ctxOf_setCtx : ctxOf (setCtx s i x) i = x := by cases i <;> rfl

@[simp] theorem setCtx_setCtx (y : Context) : setCtx (setCtx s i x) i y = setCtx s i y := by cases i <;> rfl

/-- The state after an edge on an input: its pin active or not under the polarity at work, its context replaced. -/
def atEdge (active : Bool) : State := setCtx (setLevel i (levelFor i (ctxOf s i).invert active) s) i x

variable (active : Bool)

@[simp] theorem ctxOf_atEdge : ctxOf (atEdge s i x active) i = x := ctxOf_setCtx _ i x

@[simp] theorem atEdge_now : (atEdge s i x active).now = s.now := rfl

@[simp] theorem setCtx_atEdge (y : Context) : setCtx (atEdge s i x active) i y = atEdge s i y active := setCtx_setCtx _ i x y

theorem activeLevel_levelFor (invert : Bool) : activeLevel i invert (levelFor i invert active) = active := by
  cases i <;> cases invert <;> cases active <;> rfl

/-- An edge leaves its input at the level it brings, while the working polarity stays. -/
theorem inputActive_atEdge (h : x.invert = (ctxOf s i).invert) : inputActive (atEdge s i x active) i = active := by
  have hlevel : (atEdge s i x active).cap.level i = levelFor i (ctxOf s i).invert active := by cases i <;> rfl
  have hinvert : ((atEdge s i x active).cap.context i).invert = (ctxOf s i).invert := by cases i <;> exact h
  rw [inputActive, hlevel, hinvert, activeLevel_levelFor]

theorem atEdge_changes {b : Blocks} (h : b.cap = true) : Changes b s (atEdge s i x active) :=
  (Changes.withCap h s _).trans (setCtx_changes h _ i x)

end

/-! ### The edges of a context -/

section
variable {c : Context} {i : Source} {t e m : Nat} {g : PulseGroup}

@[simp] theorem Context.pulse_sense (c : Context) (t : Nat) : c.pulse .sense t = c := by
  unfold Context.pulse; split <;> simp_all

theorem Context.pulse_first (h : c.group = none) : c.pulse .learn t = { c with group := some (PulseGroup.first_ t) } := by
  simp [Context.pulse, h]

theorem Context.pulse_further (h : c.group = some g) :
    c.pulse .learn t = { c with group := some { g with count := g.count + 1, last := t } } := by
  simp [Context.pulse, h]

theorem Context.rise_ignored (h : c.state = .off ∨ c.state = .masked) : c.rise i t = c := by
  rcases h with h | h <;> simp [Context.rise, h]

theorem Context.rise_settling (h : c.state = .settling) : c.rise i t = { c with gapFrom := none } := by
  simp [Context.rise, h]

theorem Context.rise_unarmed (h : c.state = .idle) (ha : c.armed = false) : c.rise i t = { c with quietFrom := none } := by
  simp [Context.rise, h, ha]

/-- A first edge in IDLE begins a candidate (R43). -/
theorem Context.rise_idle (h : c.state = .idle) (ha : c.armed = true) (hm : c.mark = none) :
    c.rise i t = { c with mark := some t, entered := false }.pulse i t := by
  simp [Context.rise, h, ha, hm]

/-- An edge in a mark of a frame is a pulse of it (R51). -/
theorem Context.rise_inMark (h : c.state = .inFrame) (hm : c.mark = some m) : c.rise i t = c.pulse i t := by
  simp [Context.rise, h, hm]

/-- Over a space below GLITCH_LIMIT two marks are joined (R45). -/
theorem Context.rise_joins (h : c.state = .inFrame) (hm : c.mark = none) (hg : c.gapFrom = some e)
    (ht : t < e + us c.glitchLimit) :
    c.rise i t =
      { c with mark := some c.lastStart, entered := true, gapFrom := none, buffer := c.buffer.dropLast }.pulse i t := by
  simp [Context.rise, h, hm, hg, ht]

/-- In a longer gap a candidate begins (R44). -/
theorem Context.rise_inGap (h : c.state = .inFrame) (hm : c.mark = none) (hg : c.gapFrom = some e)
    (ht : e + us c.glitchLimit ≤ t) : c.rise i t = { c with mark := some t, entered := false }.pulse i t := by
  simp [Context.rise, h, hm, hg, not_lt.2 ht]

/-- A mark of the frame is entered with its duration, and the space after it begins (R44). -/
theorem Context.markEnded_entered (hm : c.mark = some m) (he : c.entered = true) :
    c.markEnded t =
      { c with buffer := c.buffer ++ [durationOf (t - m)], mark := none, entered := false, lastStart := m,
               gapFrom := some t, groups := c.groups ++ c.group.toList, group := none } := by
  simp [Context.markEnded, hm, he]

/-- A candidate leaves no trace (R43, R44). -/
theorem Context.markEnded_candidate (hm : c.mark = some m) (he : c.entered = false) :
    c.markEnded t = { c with mark := none, group := none } := by
  simp [Context.markEnded, hm, he]

theorem Context.fall_settling (h : c.state = .settling) : c.fall i t = { c with gapFrom := some t } := by
  simp [Context.fall, h]

theorem Context.fall_unarmed (h : c.state = .idle) (ha : c.armed = false) : c.fall .sense t = { c with armed := true } := by
  simp [Context.fall, h, ha]

/-- A context that takes marks: IDLE and ready for a candidate, or IN_FRAME. -/
def Context.takesMarks (c : Context) : Prop := (c.state = .idle ∧ c.armed = true) ∨ c.state = .inFrame

/-- On RXS the end of the input's activity is the end of its mark (R44). -/
theorem Context.fall_sense (h : c.takesMarks) : c.fall .sense t = c.markEnded t := by
  rcases h with ⟨h, ha⟩ | h
  · simp [Context.fall, h, ha]
  · simp [Context.fall, h]

/-- On RXL a pulse ends, and its width is added to those of the group (R51). -/
theorem Context.fall_learn (h : c.takesMarks) (hg : c.group = some g) :
    c.fall .learn t = { c with group := some { g with lastEnd := t, widths := g.widths + (t - g.last) } } := by
  rcases h with ⟨h, ha⟩ | h
  · simp [Context.fall, h, ha, hg]
  · simp [Context.fall, h, hg]

/-- The envelope mark ends at the end of its last pulse (R51). -/
theorem Context.envelopeEnded_group (h : c.takesMarks) (hg : c.group = some g) : c.envelopeEnded = c.markEnded g.lastEnd := by
  rcases h with ⟨h, ha⟩ | h
  · simp [Context.envelopeEnded, ha, hg]
  · simp [Context.envelopeEnded, h, hg]

theorem Context.envelopeEnded_unarmed (h : c.state = .idle) (ha : c.armed = false) :
    c.envelopeEnded = { c with armed := true, quietFrom := none } := by
  simp [Context.envelopeEnded, h, ha]

theorem Context.candidateEntered_idle (h : c.state = .idle) (hm : c.mark = some m) :
    c.candidateEntered = { c with state := .inFrame, entered := true, frameStart := m, buffer := [], groups := [] } := by
  simp [Context.candidateEntered, h, hm]

theorem Context.candidateEntered_inFrame (h : c.state = .inFrame) (hm : c.mark = some m) (hg : c.gapFrom = some e) :
    c.candidateEntered =
      { c with entered := true, gapFrom := none, buffer := c.buffer ++ [spaceOf c.frameGap (m - e)] } := by
  simp [Context.candidateEntered, h, hm, hg]

/-- The bounds of a space lie within those of every duration (R46). -/
theorem spaceOf_eq (frameGap ticks : Nat) :
    spaceOf frameGap ticks = max 1 (min (1000 * frameGap - 1) (min 64999 ((ticks + 20) / 40))) := by
  unfold spaceOf durationOf; omega

end

/-! ### When the timed events of a context fall due -/

section
variable {c : Context} {i : Source} {a : Bool} {e m d now : Nat} {g : PulseGroup}

@[simp] theorem dueBy_none : dueBy none now = false := rfl
@[simp] theorem dueBy_some : dueBy (some d) now = decide (d ≤ now) := rfl
@[simp] theorem dueBefore_none : dueBefore none now = false := rfl
@[simp] theorem dueBefore_some : dueBefore (some d) now = decide (d < now) := rfl

/-! An input that is active asks for no silence, and an inactive one for no mark. -/

@[simp] theorem Context.envelopeDue_active : c.envelopeDue true = none := rfl
@[simp] theorem Context.settleDue_active : c.settleDue true = none := by simp [Context.settleDue]
@[simp] theorem Context.reaches_inactive : c.reaches i false d = none := by unfold Context.reaches; split <;> simp
@[simp] theorem Context.candidateDue_inactive : c.candidateDue i false = none := by simp [Context.candidateDue]
@[simp] theorem Context.longDue_inactive : c.longDue i false = none := by simp [Context.longDue]

theorem Context.reaches_sense (hm : c.mark = some m) : c.reaches .sense true d = some (m + d) := by
  simp [Context.reaches, hm]

theorem Context.reaches_learn (hm : c.mark = some m) (hg : c.group = some g) :
    c.reaches .learn true d = some (max (m + d) g.last) := by
  simp [Context.reaches, hm, hg]

theorem Context.candidateDue_of_candidate (h : c.state = .idle ∨ c.state = .inFrame) (he : c.entered = false) :
    c.candidateDue i a = c.reaches i a (us c.glitchLimit) := if_pos ⟨h, he⟩

theorem Context.candidateDue_of_no_mark (hm : c.mark = none) : c.candidateDue i a = none := by
  simp [Context.candidateDue, Context.reaches, hm]

theorem Context.candidateDue_of_entered (he : c.entered = true) : c.candidateDue i a = none := by
  simp [Context.candidateDue, he]

theorem Context.candidateDue_elsewhere (h : c.state ≠ .idle) (h' : c.state ≠ .inFrame) : c.candidateDue i a = none := by
  simp [Context.candidateDue, h, h']

theorem Context.longDue_inMark (h : c.state = .inFrame) (he : c.entered = true) :
    c.longDue i a = c.reaches i a markBound := if_pos ⟨h, he⟩

theorem Context.longDue_elsewhere (h : c.state ≠ .inFrame) : c.longDue i a = none := by simp [Context.longDue, h]

theorem Context.longDue_of_not_entered (he : c.entered = false) : c.longDue i a = none := by simp [Context.longDue, he]

theorem Context.gapDue_inGap (h : c.state = .inFrame) (he : c.entered = false) (hg : c.gapFrom = some e) :
    c.gapDue = some (e + min (ms c.frameGap) markBound) := by
  simp [Context.gapDue, h, he, hg]

theorem Context.gapDue_elsewhere (h : c.state ≠ .inFrame) : c.gapDue = none := by simp [Context.gapDue, h]

theorem Context.gapDue_of_entered (he : c.entered = true) : c.gapDue = none := by simp [Context.gapDue, he]

theorem Context.settleDue_settling (h : c.state = .settling) (hg : c.gapFrom = some e) :
    c.settleDue false = some (e + ms c.frameGap) := by
  simp [Context.settleDue, h, hg]

theorem Context.settleDue_elsewhere (h : c.state ≠ .settling) : c.settleDue a = none := by simp [Context.settleDue, h]

theorem Context.envelopeDue_of_group (h : c.takesMarks) (hg : c.group = some g) :
    c.envelopeDue false = some (g.lastEnd + pulseSeparation) := by
  rcases h with ⟨h, ha⟩ | h
  · simp [Context.envelopeDue, h, ha, hg]
  · simp [Context.envelopeDue, h, hg]

theorem Context.envelopeDue_unarmed (h : c.state = .idle) (ha : c.armed = false) (hq : c.quietFrom = some e) :
    c.envelopeDue false = some (e + pulseSeparation) := by
  simp [Context.envelopeDue, h, ha, hq]

theorem Context.envelopeDue_of_silent (hg : c.group = none) (hq : c.quietFrom = none) : c.envelopeDue a = none := by
  simp [Context.envelopeDue, hg, hq]

theorem Context.envelopeDue_inGap (h : c.state = .inFrame) (hg : c.group = none) : c.envelopeDue a = none := by
  simp [Context.envelopeDue, h, hg]

theorem Context.reaches_sense_due (hm : c.mark = some m) (h : m + d ≤ now) :
    dueBy (c.reaches .sense true d) now = true := by
  simpa [Context.reaches_sense hm] using h

theorem Context.reaches_learn_due (hm : c.mark = some m) (hg : c.group = some g) (h : max (m + d) g.last ≤ now) :
    dueBy (c.reaches .learn true d) now = true := by
  simpa [Context.reaches_learn hm hg] using h

/-- No pulse brings a mark or candidate to a duration before that duration is over. -/
theorem Context.reaches_late (hm : c.mark = some m) (h : now < m + d) : dueBy (c.reaches i a d) now = false := by
  unfold Context.reaches
  rw [hm]
  cases a with
  | false => rfl
  | true =>
    dsimp only
    rw [if_pos rfl]
    split <;> simp <;> omega

theorem Context.candidateDue_late (hm : c.mark = some m) (h : now < m + us c.glitchLimit) :
    dueBy (c.candidateDue i a) now = false := by
  unfold Context.candidateDue
  split
  · exact Context.reaches_late hm h
  · rfl

/-- A candidate falls due no earlier than GLITCH_LIMIT after it began. -/
theorem Context.candidateDue_bound (h : c.candidateDue i a = some d) :
    ∃ m, c.mark = some m ∧ m + us c.glitchLimit ≤ d := by
  cases hm : c.mark with
  | none => rw [Context.candidateDue_of_no_mark hm] at h; cases h
  | some m =>
    refine ⟨m, rfl, not_lt.1 fun hlt => ?_⟩
    have hlate : dueBy (c.candidateDue i a) d = false := Context.candidateDue_late hm hlt
    simp [h] at hlate

theorem Context.longDue_late (hm : c.mark = some m) (h : now < m + markBound) : dueBy (c.longDue i a) now = false := by
  unfold Context.longDue
  split
  · exact Context.reaches_late hm h
  · rfl

/-- A candidate that is not due has not reached GLITCH_LIMIT. -/
theorem Context.candidateReached_of_not_due (h : dueBy (c.candidateDue i a) now = false) :
    c.candidateReached i a now = false := by
  unfold Context.candidateReached
  split
  · rfl
  · next d hd => rw [hd, dueBy_some] at h; rw [h, Bool.false_and]

end

end Sys2Proof.Machine
end

section
/-! The events of the capture contexts, once due and before, and the two edges on RXS as commands (R42 to R45, R50). -/

namespace Sys2Proof.Machine

section
variable {s : State} {i : Source} {c x : Context}

/-! ### One event at a time -/

theorem takeEnvelope_early (h : dueBy ((ctxOf s i).envelopeDue (inputActive s i)) s.now = false) :
    takeEnvelope i s = s := by
  simp [takeEnvelope, h]

theorem takeEnvelope_due (h : dueBy ((ctxOf s i).envelopeDue (inputActive s i)) s.now = true) :
    takeEnvelope i s = setCtx s i (ctxOf s i).envelopeEnded := if_pos h

theorem takeSettled_early (h : dueBy ((ctxOf s i).settleDue (inputActive s i)) s.now = false) : takeSettled i s = s := by
  simp [takeSettled, h]

theorem takeSettled_due (h : dueBy ((ctxOf s i).settleDue (inputActive s i)) s.now = true) :
    takeSettled i s = ctxIdle i s := if_pos h

theorem takeGap_early (h : (ctxOf s i).gapReached i (inputActive s i) s.now = false) : takeGap i s = s := by
  simp [takeGap, h]

theorem takeGap_due (h : (ctxOf s i).gapReached i (inputActive s i) s.now = true) : takeGap i s = frameEnds i s := if_pos h

theorem takeCandidate_early (h : dueBy ((ctxOf s i).candidateDue i (inputActive s i)) s.now = false) :
    takeCandidate i s = s := by
  simp [takeCandidate, Context.candidateReached_of_not_due h]

theorem takeCandidate_enters (h : (ctxOf s i).candidateReached i (inputActive s i) s.now = true)
    (hroom : ¬((ctxOf s i).state = .inFrame ∧ 192 ≤ (ctxOf s i).marksEntered)) :
    takeCandidate i s = setCtx s i (ctxOf s i).candidateEntered := by
  simp only [takeCandidate, if_pos h, if_neg hroom]

theorem takeCandidate_tooLong (h : (ctxOf s i).candidateReached i (inputActive s i) s.now = true)
    (hfull : (ctxOf s i).state = .inFrame ∧ 192 ≤ (ctxOf s i).marksEntered) :
    takeCandidate i s = captureError i .tooLong s := by
  simp only [takeCandidate, if_pos h, if_pos hfull]

/-- A candidate of IDLE that reaches GLITCH_LIMIT is mark 0 of a frame (R43). -/
theorem takeCandidate_begins_frame {m : Nat} (hc : ctxOf s i = c) (ha : inputActive s i = true) (hs : c.state = .idle)
    (hm : c.mark = some m) (hent : c.entered = false) (hdue : dueBy (c.reaches i true (us c.glitchLimit)) s.now = true) :
    takeCandidate i s =
      setCtx s i { c with state := .inFrame, entered := true, frameStart := m, buffer := [], groups := [] } := by
  subst hc
  rw [takeCandidate_enters, Context.candidateEntered_idle hs hm]
  · unfold Context.candidateReached
    rw [ha, Context.candidateDue_of_candidate (.inl hs) hent]
    cases hd : (ctxOf s i).reaches i true (us (ctxOf s i).glitchLimit) with
    | none => simp [hd] at hdue
    | some d => simpa [Context.gapDue, hs, hd] using hdue
  · simp [hs]

theorem takeLong_early (h : dueBy ((ctxOf s i).longDue i (inputActive s i)) s.now = false) : takeLong i s = s := by
  simp [takeLong, h]

theorem takeLong_due (h : dueBy ((ctxOf s i).longDue i (inputActive s i)) s.now = true) :
    takeLong i s = captureError i .longMark s := if_pos h

/-! ### Before an edge (log entry 12) -/

/-- Before an edge on an inactive input only a silence can be overdue: that of an envelope mark, of SETTLING or of a frame's
gap. -/
theorem catchUp_inactive (ha : inputActive s i = false) (henv : dueBy ((ctxOf s i).envelopeDue false) s.now = false)
    (hset : dueBefore ((ctxOf s i).settleDue false) s.now = false) (hgap : dueBefore (ctxOf s i).gapDue s.now = false) :
    catchUp i s = s := by
  have henv' : takeEnvelope i s = s := takeEnvelope_early (by rw [ha]; exact henv)
  have hcand : takeCandidate i s = s := takeCandidate_early (by rw [ha]; simp)
  have hlong : takeLong i s = s := takeLong_early (by rw [ha]; simp)
  simp [catchUp, henv', ha, hset, hgap, hcand, hlong]

/-- Before an edge on an active input no silence is overdue but a frame's gap, in which a candidate may have begun. -/
theorem catchUp_active (ha : inputActive s i = true) (hgap : dueBefore (ctxOf s i).gapDue s.now = false)
    (hcand : dueBy ((ctxOf s i).candidateDue i true) s.now = false)
    (hlong : dueBy ((ctxOf s i).longDue i true) s.now = false) : catchUp i s = s := by
  have henv : takeEnvelope i s = s := takeEnvelope_early (by rw [ha]; simp)
  have hcand' : takeCandidate i s = s := takeCandidate_early (by rw [ha]; exact hcand)
  have hlong' : takeLong i s = s := takeLong_early (by rw [ha]; exact hlong)
  simp [catchUp, henv, ha, hgap, hcand', hlong']

/-! ### The two edges -/

@[simp] theorem setLevel_now (level : Bool) : (setLevel i level s).now = s.now := rfl

/-- With nothing overdue, the edge acts, and then a candidate or a mark that it has completed. -/
theorem riseEvent_of_caughtUp (ha : inputActive s i = false) (hcatch : catchUp i s = s)
    (hx : (ctxOf s i).rise i (edgeMoment i s.now) = x) :
    riseEvent i s = takeLong i (takeCandidate i (atEdge s i x true)) := by
  subst hx
  simp [riseEvent, hcatch, ha, atEdge]

/-- An edge that completes neither a candidate nor a mark is the edge alone. -/
theorem riseEvent_edge (ha : inputActive s i = false) (hcatch : catchUp i s = s)
    (hx : (ctxOf s i).rise i (edgeMoment i s.now) = x) (hinv : x.invert = (ctxOf s i).invert)
    (hcand : dueBy (x.candidateDue i true) s.now = false) (hlong : dueBy (x.longDue i true) s.now = false) :
    riseEvent i s = atEdge s i x true := by
  have hact := inputActive_atEdge s i x true hinv
  rw [riseEvent_of_caughtUp ha hcatch hx, takeCandidate_early, takeLong_early]
  · rw [ctxOf_atEdge, hact]; exact hlong
  · rw [ctxOf_atEdge, hact]; exact hcand

theorem fallEvent_edge (ha : inputActive s i = true) (hcatch : catchUp i s = s)
    (hx : (ctxOf s i).fall i (edgeMoment i s.now) = x) : fallEvent i s = atEdge s i x false := by
  subst hx
  simp [fallEvent, hcatch, ha, atEdge]

end

/-! ### The commands -/

section
variable {dt : Nat} {s : State} {i : Source} {x : Context}

theorem exec_candidateMarkBegins (h : StandbySettled (advance dt s))
    (hx : riseEvent i (advance dt s) = atEdge (advance dt s) i x true) :
    exec (.candidateMarkBegins dt i) s = .next (atEdge (advance dt s) i x true) :=
  event_of_settled h hx (atEdge_changes _ i x true rfl)

theorem exec_markEnds (h : StandbySettled (advance dt s))
    (hx : fallEvent i (advance dt s) = atEdge (advance dt s) i x false) :
    exec (.markEnds dt i) s = .next (atEdge (advance dt s) i x false) :=
  event_of_settled h hx (atEdge_changes _ i x false rfl)

end

theorem inputActive_sense (s : State) : inputActive s .sense = (s.cap.rxs == s.cap.sense.invert) := rfl

theorem inputActive_learn (s : State) : inputActive s .learn = (s.cap.rxl != s.cap.learn.invert) := rfl

/-- An edge on RXS is stamped with the whole µs at or before it (log entry 8). -/
theorem edgeMoment_sense_bounds (now : Nat) : edgeMoment .sense now ≤ now ∧ now < edgeMoment .sense now + 40 := by
  simp only [edgeMoment, us]; omega

/-! ### CANDIDATE_MARK_BEGINS on RXS -/

theorem Context.candidate_eq {c : Context} (he : c.entered = false) (m : Nat) :
    { c with mark := some m, entered := false } = { c with mark := some m } := by
  cases c; cases he; rfl

section
variable {u : State} {e : Nat}

theorem catchUp_sense_inactive (ha : inputActive u .sense = false) (hgroup : (ctxOf u .sense).group = none)
    (hquiet : (ctxOf u .sense).quietFrom = none) (hset : dueBefore ((ctxOf u .sense).settleDue false) u.now = false)
    (hgap : dueBefore (ctxOf u .sense).gapDue u.now = false) : catchUp .sense u = u :=
  catchUp_inactive ha (by rw [Context.envelopeDue_of_silent hgroup hquiet]; rfl) hset hgap

/-- Outside SETTLING and IN_FRAME nothing is due on an inactive RXS. -/
theorem catchUp_sense_elsewhere (ha : inputActive u .sense = false) (hgroup : (ctxOf u .sense).group = none)
    (hquiet : (ctxOf u .sense).quietFrom = none) (hset : (ctxOf u .sense).state ≠ .settling)
    (hframe : (ctxOf u .sense).state ≠ .inFrame) : catchUp .sense u = u :=
  catchUp_sense_inactive ha hgroup hquiet (by simp [Context.settleDue_elsewhere hset])
    (by simp [Context.gapDue_elsewhere hframe])

/-- In the gap of a frame nothing is overdue until the frame ends. -/
theorem catchUp_sense_inGap (ha : inputActive u .sense = false) (hgroup : (ctxOf u .sense).group = none)
    (hquiet : (ctxOf u .sense).quietFrom = none) (hent : (ctxOf u .sense).entered = false)
    (hs : (ctxOf u .sense).state = .inFrame) (hg : (ctxOf u .sense).gapFrom = some e)
    (hnow : u.now ≤ e + min (ms (ctxOf u .sense).frameGap) markBound) : catchUp .sense u = u :=
  catchUp_sense_inactive ha hgroup hquiet (by simp [Context.settleDue_elsewhere (c := ctxOf u .sense), hs])
    (by simp [Context.gapDue_inGap hs hent hg, hnow])

end

end Sys2Proof.Machine
end

section
/-! The two edges on RXS in each state of the SENSE context (R42 to R45, R50). -/

namespace Sys2Proof.Machine

/-! ### CANDIDATE_MARK_BEGINS -/

section
variable {u : State} {c : Context} {e : Nat} (hc : ctxOf u .sense = c) (ha : inputActive u .sense = false)
  (hgroup : c.group = none) (hquiet : c.quietFrom = none) (hmark : c.mark = none) (hent : c.entered = false)
include hc ha hgroup hquiet

theorem riseEvent_sense_ignored (hs : c.state = .off ∨ c.state = .masked) : riseEvent .sense u = atEdge u .sense c true := by
  subst hc
  have hidle : (ctxOf u .sense).state ≠ .idle := by rcases hs with hs | hs <;> simp [hs]
  have hframe : (ctxOf u .sense).state ≠ .inFrame := by rcases hs with hs | hs <;> simp [hs]
  have hset : (ctxOf u .sense).state ≠ .settling := by rcases hs with hs | hs <;> simp [hs]
  exact riseEvent_edge ha (catchUp_sense_elsewhere ha hgroup hquiet hset hframe) (Context.rise_ignored hs) rfl
    (by rw [Context.candidateDue_elsewhere hidle hframe]; rfl) (by rw [Context.longDue_elsewhere hframe]; rfl)

theorem riseEvent_sense_settling (hs : c.state = .settling) (hg : c.gapFrom = some e) (hnow : u.now ≤ e + ms c.frameGap) :
    riseEvent .sense u = atEdge u .sense { c with gapFrom := none } true := by
  subst hc
  have hcatch : catchUp .sense u = u :=
    catchUp_sense_inactive ha hgroup hquiet (by simp [Context.settleDue_settling hs hg, hnow])
      (by simp [Context.gapDue, hs])
  exact riseEvent_edge ha hcatch (Context.rise_settling hs) rfl (by simp [Context.candidateDue, hs])
    (by simp [Context.longDue, hs])

include hmark

theorem riseEvent_sense_unarmed (hs : c.state = .idle) (harm : c.armed = false) :
    riseEvent .sense u = atEdge u .sense c true := by
  subst hc
  have hrise : (ctxOf u .sense).rise .sense (edgeMoment .sense u.now) = ctxOf u .sense :=
    (Context.rise_unarmed hs harm).trans (by rw [← hquiet])
  exact riseEvent_edge ha (catchUp_sense_elsewhere ha hgroup hquiet (by simp [hs]) (by simp [hs])) hrise rfl
    (by rw [Context.candidateDue_of_no_mark hmark]; rfl) (by simp [Context.longDue, hs])

include hent

/-- The edge begins a candidate, which is not yet due (R43). -/
theorem riseEvent_sense_candidate (hs : c.state = .idle) (harm : c.armed = true) (hlim : 0 < c.glitchLimit) :
    riseEvent .sense u = atEdge u .sense { c with mark := some (edgeMoment .sense u.now) } true := by
  subst hc
  have hrise : (ctxOf u .sense).rise .sense (edgeMoment .sense u.now) = _ :=
    (Context.rise_idle hs harm hmark).trans ((Context.pulse_sense _ _).trans (Context.candidate_eq hent _))
  refine riseEvent_edge ha (catchUp_sense_elsewhere ha hgroup hquiet (by simp [hs]) (by simp [hs])) hrise rfl ?_ ?_
  · refine Context.candidateDue_late rfl ?_
    have := edgeMoment_sense_bounds u.now
    simp only [us]; omega
  · simp [Context.longDue, hs]

/-- With GLITCH_LIMIT 0 the candidate is a mark at once, and a frame begins (R43). -/
theorem riseEvent_sense_frame (hs : c.state = .idle) (harm : c.armed = true) (hlim : c.glitchLimit = 0) :
    riseEvent .sense u =
      atEdge u .sense
        { c with state := .inFrame, mark := some (edgeMoment .sense u.now), entered := true,
                 frameStart := edgeMoment .sense u.now, buffer := [], groups := [] } true := by
  subst hc
  have hrise : (ctxOf u .sense).rise .sense (edgeMoment .sense u.now) = _ :=
    (Context.rise_idle hs harm hmark).trans ((Context.pulse_sense _ _).trans (Context.candidate_eq hent _))
  have hbounds := edgeMoment_sense_bounds u.now
  have hcand :
      takeCandidate .sense (atEdge u .sense { ctxOf u .sense with mark := some (edgeMoment .sense u.now) } true) = _ :=
    takeCandidate_begins_frame (ctxOf_atEdge ..) (inputActive_atEdge _ _ _ _ rfl) hs rfl hent
      (by rw [Context.reaches_sense rfl]; simp [hlim, us, hbounds.1])
  rw [riseEvent_of_caughtUp ha (catchUp_sense_elsewhere ha hgroup hquiet (by simp [hs]) (by simp [hs])) hrise, hcand,
    setCtx_atEdge, takeLong_early]
  rw [ctxOf_atEdge]
  refine Context.longDue_late rfl ?_
  simp only [atEdge_now, markBound, us]; omega

/-- Over a space below GLITCH_LIMIT the edge joins two marks (R45). -/
theorem riseEvent_sense_joins (hs : c.state = .inFrame) (hg : c.gapFrom = some e)
    (hnow : u.now ≤ e + min (ms c.frameGap) markBound) (hspace : edgeMoment .sense u.now < e + us c.glitchLimit)
    (hlong : u.now < c.lastStart + markBound) :
    riseEvent .sense u =
      atEdge u .sense
        { c with mark := some c.lastStart, entered := true, gapFrom := none, buffer := c.buffer.dropLast } true := by
  subst hc
  have hrise : (ctxOf u .sense).rise .sense (edgeMoment .sense u.now) = _ :=
    (Context.rise_joins hs hmark hg hspace).trans (Context.pulse_sense _ _)
  exact riseEvent_edge ha (catchUp_sense_inGap ha hgroup hquiet hent hs hg hnow) hrise rfl
    (by rw [Context.candidateDue_of_entered rfl]; rfl) (Context.longDue_late rfl hlong)

/-- In a longer gap the edge begins a candidate, which is not yet due (R44). -/
theorem riseEvent_sense_inGap (hs : c.state = .inFrame) (hg : c.gapFrom = some e)
    (hnow : u.now < e + min (ms c.frameGap) markBound) (hspace : e + us c.glitchLimit ≤ edgeMoment .sense u.now)
    (hlim : 0 < c.glitchLimit) :
    riseEvent .sense u = atEdge u .sense { c with mark := some (edgeMoment .sense u.now) } true := by
  subst hc
  have hrise : (ctxOf u .sense).rise .sense (edgeMoment .sense u.now) = _ :=
    (Context.rise_inGap hs hmark hg hspace).trans ((Context.pulse_sense _ _).trans (Context.candidate_eq hent _))
  refine riseEvent_edge ha (catchUp_sense_inGap ha hgroup hquiet hent hs hg hnow.le) hrise rfl ?_ ?_
  · refine Context.candidateDue_late rfl ?_
    have := edgeMoment_sense_bounds u.now
    simp only [us]; omega
  · simp [Context.longDue, hent]

end

/-! ### MARK_ENDS -/

section
variable {u : State} {c : Context} {m e : Nat} (hc : ctxOf u .sense = c) (ha : inputActive u .sense = true)
include hc ha

theorem fallEvent_sense_settling (hs : c.state = .settling) :
    fallEvent .sense u = atEdge u .sense { c with gapFrom := some (edgeMoment .sense u.now) } false := by
  subst hc
  exact fallEvent_edge ha
    (catchUp_active ha (by simp [Context.gapDue, hs]) (by simp [Context.candidateDue, hs]) (by simp [Context.longDue, hs]))
    (Context.fall_settling hs)

theorem fallEvent_sense_unarmed (hs : c.state = .idle) (harm : c.armed = false) (hm : c.mark = none) :
    fallEvent .sense u = atEdge u .sense { c with armed := true } false := by
  subst hc
  exact fallEvent_edge ha
    (catchUp_active ha (by simp [Context.gapDue, hs]) (by rw [Context.candidateDue_of_no_mark hm]; rfl)
      (by simp [Context.longDue, hs]))
    (Context.fall_unarmed hs harm)

variable (hgroup : c.group = none)
include hgroup

/-- A candidate of IDLE or of a frame's gap that has not reached GLITCH_LIMIT leaves no trace (R43, R44). -/
theorem fallEvent_sense_candidate (hs : c.takesMarks) (hm : c.mark = some m) (hent : c.entered = false)
    (hgap : dueBefore c.gapDue u.now = false) (hnow : u.now < m + us c.glitchLimit) :
    fallEvent .sense u = atEdge u .sense { c with mark := none } false := by
  subst hc
  have hfall : (ctxOf u .sense).fall .sense (edgeMoment .sense u.now) = { ctxOf u .sense with mark := none } :=
    (Context.fall_sense hs).trans ((Context.markEnded_candidate hm hent).trans (by rw [← hgroup]))
  exact fallEvent_edge ha
    (catchUp_active ha hgap (Context.candidateDue_late hm hnow) (by rw [Context.longDue_of_not_entered hent]; rfl)) hfall

/-- A mark of the frame that is not too long is entered, and the space after it begins (R44). -/
theorem fallEvent_sense_mark (hs : c.state = .inFrame) (hm : c.mark = some m) (hent : c.entered = true)
    (hnow : u.now < m + markBound) :
    fallEvent .sense u =
      atEdge u .sense
        { c with buffer := c.buffer ++ [durationOf (edgeMoment .sense u.now - m)], mark := none, entered := false,
                 lastStart := m, gapFrom := some (edgeMoment .sense u.now) } false := by
  subst hc
  have hfall : (ctxOf u .sense).fall .sense (edgeMoment .sense u.now) = _ :=
    (Context.fall_sense (.inr hs)).trans (Context.markEnded_entered hm hent)
  rw [hgroup, Option.toList_none, List.append_nil, ← hgroup] at hfall
  exact fallEvent_edge ha
    (catchUp_active ha (by rw [Context.gapDue_of_entered hent]; rfl) (by rw [Context.candidateDue_of_entered hent]; rfl)
      (Context.longDue_late hm hnow))
    hfall

end

/-- Settles O26: each edge by the state of the context that it finds. -/
theorem senseEdges : Obligations.senseEdges := by
  constructor
  · intro dt e s u c at_ became hst hlevel hgroup hquiet hmark hent
    have ha : inputActive u .sense = false := by simpa [inputActive_sense] using hlevel
    exact
      ⟨fun hs harm hlim => exec_candidateMarkBegins hst
          (riseEvent_sense_candidate rfl ha hgroup hquiet hmark hent hs harm hlim),
        fun hs harm hlim => exec_candidateMarkBegins hst
          (riseEvent_sense_frame rfl ha hgroup hquiet hmark hent hs harm hlim),
        fun hs harm => exec_candidateMarkBegins hst (riseEvent_sense_unarmed rfl ha hgroup hquiet hmark hs harm),
        fun hs hg hnow hspace hlong => exec_candidateMarkBegins hst
          (riseEvent_sense_joins rfl ha hgroup hquiet hmark hent hs hg hnow hspace hlong),
        fun hs hg hnow hspace hlim => exec_candidateMarkBegins hst
          (riseEvent_sense_inGap rfl ha hgroup hquiet hmark hent hs hg hnow hspace hlim),
        fun hs hg hnow => exec_candidateMarkBegins hst (riseEvent_sense_settling rfl ha hgroup hquiet hs hg hnow),
        fun hs => exec_candidateMarkBegins hst (riseEvent_sense_ignored rfl ha hgroup hquiet hs)⟩
  · intro dt m e s u c at_ became hst hlevel hgroup
    have ha : inputActive u .sense = true := by simpa [inputActive_sense] using hlevel
    exact
      ⟨fun hs harm hm hent hnow => exec_markEnds hst
          (fallEvent_sense_candidate rfl ha hgroup (.inl ⟨hs, harm⟩) hm hent
            (by rw [Context.gapDue_elsewhere (by simp [hs])]; rfl) hnow),
        fun hs hm hent hnow => exec_markEnds hst (fallEvent_sense_mark rfl ha hgroup hs hm hent hnow),
        fun hs hm hent hg hnow hgap => exec_markEnds hst
          (fallEvent_sense_candidate rfl ha hgroup (.inr hs) hm hent
            (by rw [Context.gapDue_inGap hs hent hg, dueBefore_some, decide_eq_false_iff_not]; exact not_lt.2 hgap) hnow),
        fun hs harm hm => exec_markEnds hst (fallEvent_sense_unarmed rfl ha hs harm hm),
        fun hs => exec_markEnds hst (fallEvent_sense_settling rfl ha hs)⟩

end Sys2Proof.Machine
end

section
/-! GLITCH_LIMIT, the mark too long and the end of settling (R43, R44, R48 to R50), and their commands on RXS. -/

namespace Sys2Proof.Machine

/-! ### Commands that reach one context -/

section
variable {dt : Nat} {s : State} {f : State → State}

theorem event_of_setCtx {i : Source} {x : Context} (h : StandbySettled (advance dt s))
    (hf : f (advance dt s) = setCtx (advance dt s) i x) : event dt f s = .next (setCtx (advance dt s) i x) :=
  event_of_settled h hf (setCtx_changes rfl _ i x)

theorem event_of_unchanged (h : StandbySettled (advance dt s)) (hf : f (advance dt s) = advance dt s) :
    event dt f s = .next (advance dt s) :=
  event_of_settled h hf (Changes.refl _)

end

/-- The buffer is full with the 192 marks and 191 spaces of the longest frame (R48). -/
theorem Context.full_iff (c : Context) : 192 ≤ c.marksEntered ↔ 383 ≤ c.buffer.length := by
  unfold Context.marksEntered; omega

section
variable {s : State} {i : Source} {c : Context} {m : Nat} (hc : ctxOf s i = c)

theorem takeEnvelope_of_active (ha : inputActive s i = true) : takeEnvelope i s = s := takeEnvelope_early (by simp [ha])

/-- A capture error that no session takes leaves its context in SETTLING and does nothing else (R48, R49). -/
theorem captureError_unattended (h : attachedTo s i = none) (err : CaptureError) :
    captureError i err s = ctxSettling i s := by
  have h' : attachedTo (ctxSettling i s) i = none := h
  simp [captureError, learnTakesError, h']

/-- In SETTLING with the input active no wait is under way (R50). -/
theorem ctxSettling_of_active (ha : inputActive s i = true) :
    ctxSettling i s = setCtx s i { (ctxOf s i).cleared with state := .settling, gapFrom := none } := by
  have ha' : activeLevel i (ctxOf s i).invert (s.cap.level i) = true := ha
  simp [ctxSettling, Context.enterSettling, ha']

include hc

/-! ### GLITCH_LIMIT -/

theorem candidateEvent_begins_frame (ha : inputActive s i = true) (hs : c.state = .idle) (hm : c.mark = some m)
    (hent : c.entered = false) (hdue : dueBy (c.reaches i true (us c.glitchLimit)) s.now = true) :
    candidateEvent i s =
      setCtx s i { c with state := .inFrame, entered := true, frameStart := m, buffer := [], groups := [] } := by
  rw [candidateEvent, takeEnvelope_of_active ha, takeCandidate_begins_frame hc ha hs hm hent hdue]

theorem candidateEvent_early (ha : inputActive s i = true) (hm : c.mark = some m) (hnow : s.now < m + us c.glitchLimit) :
    candidateEvent i s = s := by
  subst hc
  rw [candidateEvent, takeEnvelope_of_active ha, takeCandidate_early (Context.candidateDue_late hm hnow)]

end

/-! ### GLITCH_LIMIT in the gap of a frame -/

section
variable {s : State} {c : Context} {m e : Nat} (hc : ctxOf s .sense = c) (ha : inputActive s .sense = true)
  (hs : c.state = .inFrame) (hent : c.entered = false) (hm : c.mark = some m) (hg : c.gapFrom = some e)
  (hdue : m + us c.glitchLimit ≤ s.now) (hend : m + us c.glitchLimit ≤ e + min (ms c.frameGap) markBound)
  (hbegan : m < e + min (ms c.frameGap) markBound)
include hc ha hs hent hm hg hdue hend hbegan

/-- A candidate that began before the end of the frame and lasts GLITCH_LIMIT by then becomes a mark (R44, R46). -/
theorem candidateReached_inGap : (ctxOf s .sense).candidateReached .sense (inputActive s .sense) s.now = true := by
  subst hc
  have hcand := Context.candidateDue_of_candidate (i := .sense) (a := true) (.inr hs) hent
  rw [Context.reaches_sense hm] at hcand
  simp only [ha, Context.candidateReached, hcand, Context.gapDue_inGap hs hent hg, hm, Option.getD_some, Bool.and_eq_true,
    decide_eq_true_eq]
  exact ⟨hdue, hend, hbegan⟩

theorem candidateEvent_next_mark (hroom : c.buffer.length < 383) :
    candidateEvent .sense s =
      setCtx s .sense
        { c with entered := true, gapFrom := none,
                 buffer := c.buffer ++ [max 1 (min (1000 * c.frameGap - 1) (min 64999 ((m - e + 20) / 40)))] } := by
  have hreached := candidateReached_inGap hc ha hs hent hm hg hdue hend hbegan
  subst hc
  have hnotFull : ¬192 ≤ (ctxOf s .sense).marksEntered := by rw [Context.full_iff]; exact not_le.2 hroom
  rw [candidateEvent, takeEnvelope_of_active ha, takeCandidate_enters hreached fun h => hnotFull h.2,
    Context.candidateEntered_inFrame hs hm hg, spaceOf_eq]

/-- As mark 193 the candidate makes the frame too long (R48). -/
theorem candidateEvent_tooLong (hfull : 383 ≤ c.buffer.length) (hatt : attachedTo s .sense = none) :
    candidateEvent .sense s = ctxSettling .sense s := by
  have hreached := candidateReached_inGap hc ha hs hent hm hg hdue hend hbegan
  subst hc
  rw [candidateEvent, takeEnvelope_of_active ha,
    takeCandidate_tooLong hreached ⟨hs, (Context.full_iff _).2 hfull⟩, captureError_unattended hatt]

end

/-! ### The mark too long, and the end of settling -/

section
variable {s : State} {i : Source} {c : Context} {m e : Nat} (hc : ctxOf s i = c)
include hc

theorem longEvent_due (ha : inputActive s i = true) (hs : c.state = .inFrame) (hent : c.entered = true)
    (hdue : dueBy (c.reaches i true markBound) s.now = true) : longEvent i s = captureError i .longMark s := by
  subst hc
  rw [longEvent, takeEnvelope_of_active ha, takeLong_due (by rwa [ha, Context.longDue_inMark hs hent])]

theorem longEvent_early (ha : inputActive s i = true) (hm : c.mark = some m) (hnow : s.now < m + markBound) :
    longEvent i s = s := by
  subst hc
  rw [longEvent, takeEnvelope_of_active ha, takeLong_early (Context.longDue_late hm hnow)]

/-- The wait of SETTLING is over: the context is IDLE with the parameters copied anew (R42, R50). -/
theorem settledEvent_done (ha : inputActive s i = false) (hs : c.state = .settling) (hg : c.gapFrom = some e)
    (hdue : e + ms c.frameGap ≤ s.now) :
    settledEvent i s = setCtx s i (c.enterIdle i s.opc.params (s.cap.level i)) := by
  subst hc
  exact takeSettled_due (by rw [ha, Context.settleDue_settling hs hg]; simpa using hdue)

theorem settledEvent_early (hs : c.state = .settling) (hg : c.gapFrom = some e) (hnow : s.now < e + ms c.frameGap) :
    settledEvent i s = s := by
  subst hc
  refine takeSettled_early ?_
  cases inputActive s i with
  | true => simp
  | false => simpa [Context.settleDue_settling hs hg] using hnow

end

/-- Settles O27: each timed event once its moment has come, and before it. -/
theorem senseTimedEvents : Obligations.senseTimedEvents := by
  constructor
  · intro dt m e s u c became hst hlevel hm hent
    have ha : inputActive u .sense = true := by simpa [inputActive_sense] using hlevel
    exact
      ⟨fun hs hdue => event_of_setCtx hst (candidateEvent_begins_frame rfl ha hs hm hent
          (Context.reaches_sense_due hm hdue)),
        fun hs hg hdue hroom hend hbegan => event_of_setCtx hst
          (candidateEvent_next_mark rfl ha hs hent hm hg hdue hend hbegan hroom),
        fun hs hg hdue hfull hend hbegan hatt => event_of_setCtx hst
          (candidateEvent_tooLong rfl ha hs hent hm hg hdue hend hbegan hfull hatt),
        fun hnow => event_of_unchanged hst (candidateEvent_early rfl ha hm hnow)⟩
  · intro dt m e s u c hst
    refine ⟨fun hs hm hent hlevel hatt hdue => ?_, fun hs hm hent hlevel hnow => ?_, fun hs hg hlevel hdue => ?_,
      fun hs hg hnow => event_of_unchanged hst (settledEvent_early rfl hs hg hnow)⟩
    · have ha : inputActive u .sense = true := by simpa [inputActive_sense] using hlevel
      have hlong : longEvent .sense u = captureError .sense .longMark u := longEvent_due rfl ha hs hent
        (Context.reaches_sense_due hm hdue)
      exact event_of_setCtx hst (hlong.trans ((captureError_unattended hatt _).trans (ctxSettling_of_active ha)))
    · have ha : inputActive u .sense = true := by simpa [inputActive_sense] using hlevel
      exact event_of_unchanged hst (longEvent_early rfl ha hm hnow)
    · have ha : inputActive u .sense = false := by simpa [inputActive_sense] using hlevel
      exact event_of_setCtx hst (settledEvent_done rfl ha hs hg hdue)

end Sys2Proof.Machine
end

section
/-! The end of a frame (R46, R47): its moment, what its context becomes, and who takes it. -/

namespace Sys2Proof.Machine

section
variable {s : State} {i : Source} {c : Context} {e : Nat} (hc : ctxOf s i = c) (hs : c.state = .inFrame)
  (hent : c.entered = false) (hg : c.gapFrom = some e) (hgroup : c.group = none)
include hc hs hent hg hgroup

/-- The gap ends the frame, unless a candidate that began in it has become a mark (R44, R46). -/
theorem gapEvent_due (hnow : e + min (ms c.frameGap) markBound ≤ s.now)
    (hcand : ∀ m, c.mark = some m → e + min (ms c.frameGap) markBound ≤ m + us c.glitchLimit) :
    gapEvent i s = frameEnds i s := by
  subst hc
  have henv : takeEnvelope i s = s := takeEnvelope_early (by rw [Context.envelopeDue_inGap hs hgroup]; rfl)
  have hreached : (ctxOf s i).gapReached i (inputActive s i) s.now = true := by
    simp only [Context.gapReached, Context.gapDue_inGap hs hent hg, decide_eq_true hnow, Bool.true_and]
    split
    · rfl
    · next due hdue =>
      obtain ⟨m, hm, hle⟩ := Context.candidateDue_bound hdue
      exact decide_eq_true ((hcand m hm).trans hle)
  rw [gapEvent, henv, takeGap_due hreached]

theorem gapEvent_early (hnow : s.now < e + min (ms c.frameGap) markBound) : gapEvent i s = s := by
  subst hc
  have henv : takeEnvelope i s = s := takeEnvelope_early (by rw [Context.envelopeDue_inGap hs hgroup]; rfl)
  rw [gapEvent, henv, takeGap_early]
  simp only [Context.gapReached, Context.gapDue_inGap hs hent hg, decide_eq_false (not_le.2 hnow), Bool.false_and]

end

section
variable {s : State} {c : Context} {e : Nat} {f : Frame}

/-- The stop stamp of a frame is the start of its gap (R41, R47). -/
theorem Context.frame_inGap (hg : c.gapFrom = some e) :
    c.frame = { durations := c.buffer, start := stampOf c.frameStart, stop := stampOf e } := by
  simp [Context.frame, hg]

/-- A SENSE frame is the Recognizer's alone while no session is attached (R47). -/
theorem deliverSense_unattended (h : attachedTo s .sense = none) :
    deliverSense f s = recognizerTakesFrame f.durations s := by
  simp only [deliverSense, h]

/-- With a session attached its two consumers take it in one of the two orders (R47; log entry 3). -/
theorem deliverSense_attended (h : attachedTo s .sense ≠ none) :
    deliverSense f s = learnTakesFrame .sense f none (recognizerTakesFrame f.durations (countDraw s)) ∨
      deliverSense f s = recognizerTakesFrame f.durations (learnTakesFrame .sense f none (countDraw s)) := by
  obtain ⟨x, hx⟩ := Option.ne_none_iff_exists'.1 h
  cases hd : Config.recognizerFirst s.draws with
  | true => exact .inl (by simp [deliverSense, hx, hd])
  | false => exact .inr (by simp [deliverSense, hx, hd])

end

/-- Settles O28: the end of the gap delivers the frame by whether a session is attached; before it nothing happens. -/
theorem senseFrameDelivered : Obligations.senseFrameDelivered := by
  intro dt e s u c f idle left v hs hent hg hgroup
  have hexec : exec (.frameGapReached dt .sense) s = .next (settleStandby (gapEvent .sense u)) := rfl
  rw [hexec]
  refine ⟨fun hnow hcand => ?_, fun hnow => ?_⟩
  · have hgap : gapEvent .sense u = frameEnds .sense u := gapEvent_due rfl hs hent hg hgroup hnow hcand
    have hends : gapEvent .sense u = deliverSense f v := hgap.trans (congrArg (deliverSense · v) (Context.frame_inGap hg))
    rw [hends]
    exact ⟨fun hatt => by rw [deliverSense_unattended (s := v) hatt],
      fun hatt => ⟨_, rfl, deliverSense_attended (s := v) hatt⟩⟩
  · have hearly : gapEvent .sense u = u := gapEvent_early rfl hs hent hg hgroup hnow
    rw [hearly]

end Sys2Proof.Machine
end

section
/-! The edges and timed events on RXL (R43, R49 to R51, R66): pulses, their groups, and the envelope marks these make. -/

namespace Sys2Proof.Machine

/-! ### Pulse edges -/

section
variable {u : State} {c : Context} {g : PulseGroup} {m : Nat} (hc : ctxOf u .learn = c)

section
variable (ha : inputActive u .learn = false)
include hc ha

/-- A first pulse opens its group, and with it an envelope mark that is a candidate (R43, R51). -/
theorem riseEvent_learn_first (hs : c.state = .idle) (harm : c.armed = true) (hm : c.mark = none) (hent : c.entered = false)
    (hgroup : c.group = none) (hlim : 0 < c.glitchLimit) :
    riseEvent .learn u =
      atEdge u .learn { c with mark := some u.now, group := some (PulseGroup.first_ u.now) } true := by
  subst hc
  have hcatch : catchUp .learn u = u := catchUp_inactive ha (by simp [Context.envelopeDue, harm, hgroup])
    (by simp [Context.settleDue, hs]) (by simp [Context.gapDue, hs])
  have hrise : (ctxOf u .learn).rise .learn u.now =
      { ctxOf u .learn with mark := some u.now, group := some (PulseGroup.first_ u.now) } := by
    rw [Context.rise_idle hs harm hm, Context.candidate_eq hent]
    exact Context.pulse_first hgroup
  refine riseEvent_edge ha hcatch hrise rfl (Context.candidateDue_late rfl ?_) (by simp [Context.longDue, hs])
  simp only [us]; omega

/-- A further pulse before the envelope mark has ended is counted (R51). -/
theorem riseEvent_learn_further (hs : c.state = .inFrame) (hm : c.mark = some m) (hent : c.entered = true)
    (hg : c.group = some g) (hnow : u.now < g.lastEnd + pulseSeparation) (hlong : u.now < m + markBound) :
    riseEvent .learn u =
      atEdge u .learn { c with group := some { g with count := g.count + 1, last := u.now } } true := by
  subst hc
  have hcatch : catchUp .learn u = u := catchUp_inactive ha
    (by rw [Context.envelopeDue_of_group (.inr hs) hg]; simpa using hnow) (by simp [Context.settleDue, hs])
    (by rw [Context.gapDue_of_entered hent]; rfl)
  exact riseEvent_edge ha hcatch ((Context.rise_inMark hs hm).trans (Context.pulse_further hg)) rfl
    (by simp [Context.candidateDue, hent]) (Context.longDue_late hm hlong)

end

/-- The end of a pulse adds its width to its group (R51). -/
theorem fallEvent_learn_pulse (hc : ctxOf u .learn = c) (ha : inputActive u .learn = true) (hs : c.state = .inFrame)
    (hm : c.mark = some m) (hent : c.entered = true) (hg : c.group = some g)
    (hnow : u.now < max (m + markBound) g.last) :
    fallEvent .learn u =
      atEdge u .learn
        { c with group := some { g with lastEnd := u.now, widths := g.widths + (u.now - g.last) } } false := by
  subst hc
  have hlong : dueBy ((ctxOf u .learn).longDue .learn true) u.now = false := by
    rw [Context.longDue_inMark hs hent, Context.reaches_learn hm hg, dueBy_some]
    exact decide_eq_false (not_le.2 hnow)
  exact fallEvent_edge ha
    (catchUp_active ha (by rw [Context.gapDue_of_entered hent]; rfl) (by rw [Context.candidateDue_of_entered hent]; rfl)
      hlong)
    (Context.fall_learn (.inr hs) hg)

/-! ### The end of an envelope mark -/

include hc

section
variable (ha : inputActive u .learn = false)
include ha

theorem envelopeEvent_due (hs : c.takesMarks) (hg : c.group = some g) (hnow : g.lastEnd + pulseSeparation ≤ u.now) :
    envelopeEvent u = setCtx u .learn (c.markEnded g.lastEnd) := by
  subst hc
  rw [envelopeEvent, takeEnvelope_due, Context.envelopeEnded_group hs hg]
  rw [ha, Context.envelopeDue_of_group hs hg]
  simpa using hnow

/-- An envelope mark of a frame is entered, and its group kept for the measurement (R51, R52). -/
theorem envelopeEvent_mark (hs : c.state = .inFrame) (hm : c.mark = some m) (hent : c.entered = true) (hg : c.group = some g)
    (hnow : g.lastEnd + pulseSeparation ≤ u.now) :
    envelopeEvent u =
      setCtx u .learn
        { c with buffer := c.buffer ++ [durationOf (g.lastEnd - m)], mark := none, entered := false, lastStart := m,
                 gapFrom := some g.lastEnd, groups := c.groups ++ [g], group := none } := by
  rw [envelopeEvent_due hc ha (.inr hs) hg hnow, Context.markEnded_entered hm hent, hg, Option.toList_some]

/-- An envelope mark that is a candidate leaves no trace (R43, R51). -/
theorem envelopeEvent_candidate (hs : c.takesMarks) (hm : c.mark = some m) (hent : c.entered = false) (hg : c.group = some g)
    (hnow : g.lastEnd + pulseSeparation ≤ u.now) :
    envelopeEvent u = setCtx u .learn { c with mark := none, group := none } := by
  rw [envelopeEvent_due hc ha hs hg hnow, Context.markEnded_candidate hm hent]

/-- After 100 µs without a pulse the wait of R42 is over (R51). -/
theorem envelopeEvent_unarmed {e : Nat} (hs : c.state = .idle) (harm : c.armed = false) (hq : c.quietFrom = some e)
    (hnow : e + pulseSeparation ≤ u.now) :
    envelopeEvent u = setCtx u .learn { c with armed := true, quietFrom := none } := by
  subst hc
  rw [envelopeEvent, takeEnvelope_due, Context.envelopeEnded_unarmed hs harm]
  rw [ha, Context.envelopeDue_unarmed hs harm hq]
  simpa using hnow

end

theorem envelopeEvent_early (hg : c.group = some g) (harm : c.armed = true) (hnow : u.now < g.lastEnd + pulseSeparation) :
    envelopeEvent u = u := by
  subst hc
  refine takeEnvelope_early ?_
  unfold Context.envelopeDue
  by_cases ha : inputActive u .learn = true
  · simp [ha]
  · by_cases hs : (ctxOf u .learn).state = .idle ∨ (ctxOf u .learn).state = .inFrame
    · simpa [ha, harm, hs, hg] using hnow
    · simp [ha, harm, hs]

end

/-! ### Sessions that a capture error ends -/

theorem attachedTo_eq_some {s : State} {i : Source} {x : Session} :
    attachedTo s i = some x ↔ s.lrn.session = some x ∧ x.source = i := by
  unfold attachedTo
  split
  · next y hy => by_cases h : y.source = i <;> simp [hy, h] <;> rintro rfl <;> exact h
  · next hn => simp [hn]

/-- A capture error fails a session that waits for its first frame, and its LEARN context goes OFF (R66, R70). -/
theorem captureError_waiting {s : State} {x : Session} (hatt : attachedTo s .learn = some x) (hx : x.state = .waitingFirst)
    (err : CaptureError) :
    captureError .learn err s =
      notified (.learnResult x.tag err.outcome err.figure 0 0 0 0)
        (setCtx (s.withLrn { s.lrn with session := none }) .learn (ctxOf s .learn).enterOff) := by
  have hatt' : attachedTo (ctxSettling .learn s) .learn = some x := hatt
  simp only [captureError, learnTakesError, hatt', hx, failSession, detachSession, (attachedTo_eq_some.1 hatt).2]
  rfl

/-- Settles O29: each pulse edge and each timed event of the LEARN context. -/
theorem learnPulsesGroup : Obligations.learnPulsesGroup := by
  intro dt m e g s u c high low same hst
  have hinactive (h : u.cap.rxl = c.invert) : inputActive u .learn = false := by simpa [inputActive_learn] using h
  have hactive (h : u.cap.rxl ≠ c.invert) : inputActive u .learn = true := by simpa [inputActive_learn] using h
  refine ⟨fun hs harm hm hent hgroup hlevel hlim => ?_, fun hs hm hent hg hlevel hnow hlong => ?_,
    fun hs hm hent hg hlevel hnow => ?_, fun hs hm hent hg hlevel hnow => ?_, fun hs harm hm hent hg hlevel hnow => ?_,
    fun hg harm hnow => event_of_unchanged hst (envelopeEvent_early rfl hg harm hnow),
    fun hs harm hq hlevel hnow => ?_, fun hs hm hent hg hlevel hdue => ?_,
    fun x hs hm hent hg hlevel hdue hatt hx => ?_, fun hs hg hlevel hdue => ?_⟩
  · exact exec_candidateMarkBegins hst (riseEvent_learn_first rfl (hinactive hlevel) hs harm hm hent hgroup hlim)
  · exact exec_candidateMarkBegins hst (riseEvent_learn_further rfl (hinactive hlevel) hs hm hent hg hnow hlong)
  · exact exec_markEnds hst (fallEvent_learn_pulse rfl (hactive hlevel) hs hm hent hg hnow)
  · exact event_of_setCtx hst (envelopeEvent_mark rfl (hinactive hlevel) hs hm hent hg hnow)
  · exact event_of_setCtx hst (envelopeEvent_candidate rfl (hinactive hlevel) (.inl ⟨hs, harm⟩) hm hent hg hnow)
  · exact event_of_setCtx hst (envelopeEvent_unarmed rfl (hinactive hlevel) hs harm hq hnow)
  · exact event_of_setCtx hst
      (candidateEvent_begins_frame rfl (hactive hlevel) hs hm hent (Context.reaches_learn_due hm hg hdue))
  · have hlong := (longEvent_due rfl (hactive hlevel) hs hent (Context.reaches_learn_due hm hg hdue)).trans
      (captureError_waiting hatt hx .longMark)
    have hexec : exec (.longMark dt .learn) s = .next (settleStandby (longEvent .learn u)) := rfl
    rw [hexec, hlong, settleStandby_notified]
    rfl
  · exact event_of_setCtx hst (settledEvent_done rfl (hinactive hlevel) hs hg hdue)

end Sys2Proof.Machine
end

section
/-! The measurement of a LEARN frame (R52 to R54) and its delivery (R46, R47). -/

namespace Sys2Proof.Machine

/-! ### The weighted mean period -/

section
variable {gs all : List PulseGroup}

/-- The period of a group of 2 pulses or more, in ticks (R53). -/
def PulseGroup.period (g : PulseGroup) : ℚ := ((g.last - g.first : Nat) : ℚ) / ((g.count : ℚ) - 1)

theorem weightedPeriods_cons (g : PulseGroup) (gs : List PulseGroup) :
    weightedPeriods (g :: gs) =
      ((weightedPeriods gs).1 * (g.count - 1) + g.count * (g.last - g.first) * (weightedPeriods gs).2,
        (weightedPeriods gs).2 * (g.count - 1)) := rfl

theorem weightedPeriods_denominator_pos (h : ∀ g ∈ gs, 2 ≤ g.count) : 0 < (weightedPeriods gs).2 := by
  induction gs with
  | nil => exact Nat.one_pos
  | cons g gs ih =>
    obtain ⟨hg, hgs⟩ := List.forall_mem_cons.1 h
    rw [weightedPeriods_cons]
    exact Nat.mul_pos (ih hgs) (by omega)

/-- The fraction that the sum is kept as is the sum of the weighted periods (R53). -/
theorem weightedPeriods_quotient (h : ∀ g ∈ gs, 2 ≤ g.count) :
    ((weightedPeriods gs).1 : ℚ) / (weightedPeriods gs).2 = (gs.map fun g => (g.count : ℚ) * g.period).sum := by
  induction gs with
  | nil => simp [weightedPeriods]
  | cons g gs ih =>
    obtain ⟨hg, hgs⟩ := List.forall_mem_cons.1 h
    have hd : ((weightedPeriods gs).2 : ℚ) ≠ 0 := Nat.cast_ne_zero.2 (weightedPeriods_denominator_pos hgs).ne'
    have hcount : ((g.count : ℚ) - 1) ≠ 0 := by
      have : (2 : ℚ) ≤ g.count := by exact_mod_cast hg
      linarith
    rw [List.map_cons, List.sum_cons, ← ih hgs, weightedPeriods_cons, PulseGroup.period]
    push_cast [Nat.cast_sub (show 1 ≤ g.count by omega)]
    field_simp
    ring

theorem cast_pulseTotal (gs : List PulseGroup) : (pulseTotal gs : ℚ) = (gs.map fun g => (g.count : ℚ)).sum := by
  simp [pulseTotal, Nat.cast_list_sum, List.map_map, Function.comp_def]

theorem cast_widthTotal (gs : List PulseGroup) : (widthTotal gs : ℚ) = (gs.map fun g => (g.widths : ℚ)).sum := by
  simp [widthTotal, Nat.cast_list_sum, List.map_map, Function.comp_def]

/-! ### The result of the measurement -/

theorem measureGroups_of_none (h : contributing all = []) : measureGroups all = { carrier := 0, duty := 33 } := if_pos h

theorem measureGroups_of_period (h : contributing all ≠ []) (hn : (weightedPeriods (contributing all)).1 ≠ 0) :
    measureGroups all =
      { carrier :=
          (2 * 400000 * (weightedPeriods (contributing all)).2 * pulseTotal (contributing all) +
            (weightedPeriods (contributing all)).1) / (2 * (weightedPeriods (contributing all)).1)
        duty :=
          if 100 * widthTotal (contributing all) * (weightedPeriods (contributing all)).2 <
            29 * (weightedPeriods (contributing all)).1 then 25
          else if 1000 * widthTotal (contributing all) * (weightedPeriods (contributing all)).2 <
            415 * (weightedPeriods (contributing all)).1 then 33
          else 50 } := by
  simp [measureGroups, h, hn]

end

/-! ### Fractions -/

section
variable {n d w width k : Nat}

/-- 400,000 over a mean period n / d of weight w, rounded half up (R53). -/
theorem floor_carrier (hn : n ≠ 0) :
    ⌊(400000 : ℚ) / (n / d / w) + 1 / 2⌋₊ = (2 * 400000 * d * w + n) / (2 * n) := by
  rw [← Nat.floor_div_eq_div (K := ℚ)]
  congr 1
  push_cast
  field_simp
  ring

/-- The share of the mean width in the mean period, compared with a bound in tenths of a percent (R53). -/
theorem percent_lt_iff (hn : n ≠ 0) (hd : d ≠ 0) (hw : w ≠ 0) :
    (100 : ℚ) * (width / w) / (n / d / w) < k / 10 ↔ 1000 * width * d < k * n := by
  have hn' : (0 : ℚ) < n := Nat.cast_pos.2 (Nat.pos_of_ne_zero hn)
  have hpercent : (100 : ℚ) * (width / w) / (n / d / w) = 100 * width * d / n := by field_simp
  rw [hpercent, div_lt_div_iff₀ hn' (by norm_num)]
  constructor
  · intro h
    have h' : (1000 * width * d : ℚ) < k * n := by linarith
    exact_mod_cast h'
  · intro h
    have h' : (1000 * width * d : ℚ) < k * n := by exact_mod_cast h
    linarith

end

/-! ### Delivery -/

section
variable {f : Frame} {m : Measurement} {s : State}

theorem deliverLearn_in_band (h : carrierOk m.carrier = true) :
    deliverLearn f (some m) s = learnTakesFrame .learn f (some m) s := if_pos h

/-- A carrier outside the bands fails a session that waits for its first frame, with its value (R54, R66). -/
theorem deliverLearn_out_of_range {x : Session} (hatt : attachedTo s .learn = some x) (hx : x.state = .waitingFirst)
    (h : carrierOk m.carrier = false) :
    deliverLearn f (some m) s = failSession x .carrierOutOfRange (min 10000 m.carrier) s := by
  simp [deliverLearn, h, learnTakesError, hatt, hx, CaptureError.outcome, CaptureError.figure]

end

/-- The frequency and the duty of contributing groups by their weighted mean period (R53). -/
theorem measureGroups_eq {all : List PulseGroup} {pulses period width : ℚ}
    (hpulses : pulses = ((contributing all).map fun g => (g.count : ℚ)).sum)
    (hperiod : period = ((contributing all).map fun g => (g.count : ℚ) * g.period).sum / pulses)
    (hwidth : width = ((contributing all).map fun g => (g.widths : ℚ)).sum / pulses) (hne : period ≠ 0) :
    measureGroups all =
      { carrier := ⌊400000 / period + 1 / 2⌋₊
        duty := if 100 * width / period < 29 then 25 else if 100 * width / period < 415 / 10 then 33 else 50 } := by
  have hcount : ∀ g ∈ contributing all, 2 ≤ g.count := fun g hg => of_decide_eq_true (List.mem_filter.1 hg).2
  have hd := (weightedPeriods_denominator_pos hcount).ne'
  rw [← weightedPeriods_quotient hcount] at hperiod
  rw [← cast_pulseTotal] at hpulses
  rw [← cast_widthTotal] at hwidth
  subst hpulses hperiod hwidth
  have hn : (weightedPeriods (contributing all)).1 ≠ 0 := fun h => hne (by simp [h])
  have hw : pulseTotal (contributing all) ≠ 0 := fun h => hne (by simp [h])
  have hgroups : contributing all ≠ [] := fun h => hw (by simp [h, pulseTotal])
  have h29 := percent_lt_iff (width := widthTotal (contributing all)) (k := 290) hn hd hw
  have h415 := percent_lt_iff (width := widthTotal (contributing all)) (k := 415) hn hd hw
  have hlow : (((290 : Nat) : ℚ) / 10) = 29 := by norm_num
  rw [hlow] at h29
  rw [measureGroups_of_period hgroups hn, floor_carrier hn]
  congr 1
  have hten : ∀ a b c : Nat, 1000 * a * b < 290 * c ↔ 100 * a * b < 29 * c := fun a b c => by
    rw [Nat.mul_assoc, Nat.mul_assoc]; omega
  exact if_congr ((hten _ _ _).symm.trans h29.symm) rfl (if_congr h415.symm rfl rfl)

/-- Settles O30: the end of the gap, the delivery by the measured carrier, and the measurement of the groups. -/
theorem learnFrameMeasured : Obligations.learnFrameMeasured := by
  refine ⟨?_, fun f m s => ⟨fun hband => ?_, fun x hatt hx hband => ?_, rfl⟩, ?_, fun more hmore => ?_⟩
  · intro dt e s u c hs hent hm hgroup hg hnow
    have hexec : exec (.frameGapReached dt .learn) s = .next (settleStandby (gapEvent .learn u)) := rfl
    have hends : gapEvent .learn u = frameEnds .learn u :=
      gapEvent_due rfl hs hent hg hgroup hnow fun m h => (Option.some_ne_none m (h.symm.trans hm)).elim
    have hleft : c.afterFrame .learn u.opc.params u.cap.rxl =
        { c.enterIdle .learn u.opc.params u.cap.rxl with measure := false } := by
      simp only [Context.afterFrame, hm]
    have hframe : frameEnds .learn u =
        deliverLearn c.frame (if c.measure then some (measureGroups c.groups) else none)
          (setCtx u .learn (c.afterFrame .learn u.opc.params u.cap.rxl)) := rfl
    rw [hexec, hends, hframe, hleft, Context.frame_inGap hg]
    rfl
  · exact deliverLearn_in_band ((carrierOk_iff _).2 hband)
  · exact deliverLearn_out_of_range hatt hx (Bool.eq_false_iff.2 fun h => hband ((carrierOk_iff _).1 h))
  · intro groups gs pulses period width percent hne
    exact measureGroups_eq rfl rfl rfl hne
  · refine measureGroups_of_none (List.filter_eq_nil_iff.2 fun g hg => ?_)
    have := hmore g hg
    simp only [decide_eq_true_eq]
    omega

end Sys2Proof.Machine
end

section
/-! The masking condition (R55, R56), and what it ends of a session (R68, R70). -/

namespace Sys2Proof.Machine

/-! ### One context -/

section
variable {s : State} {i : Source}

@[simp] theorem setCtx_ctxOf (s : State) (i : Source) : setCtx s i (ctxOf s i) = s := by cases i <;> rfl

/-- What the rise of the masking condition makes of a context (R55). -/
def Context.masked (c : Context) : Context := if c.state = .off then c else c.enterMasked

/-- What its end makes of one (R56). -/
def Context.unmasked (c : Context) (i : Source) (level : Bool) (now : Nat) : Context :=
  if c.state = .masked then c.enterSettling i level now else c

theorem ctxMasked_eq (s : State) (i : Source) : ctxMasked i s = setCtx s i (ctxOf s i).masked := by
  unfold ctxMasked Context.masked
  split <;> simp

theorem ctxUnmasked_eq (s : State) (i : Source) :
    ctxUnmasked i s = setCtx s i ((ctxOf s i).unmasked i (s.cap.level i) s.now) := by
  unfold ctxUnmasked Context.unmasked
  split
  · rfl
  · simp

theorem Context.masked_state (c : Context) : c.masked.state ≠ .inFrame := by
  unfold Context.masked
  split
  · next h => simp [h]
  · simp [Context.enterMasked]

/-! ### The end of a session -/

theorem reduceSession_cap (x : Session) (s : State) : (reduceSession x s).cap = (detachSession x s).cap := by
  unfold reduceSession
  split <;> rfl

@[simp] theorem detachSession_session (x : Session) (s : State) : (detachSession x s).lrn.session = none := by
  unfold detachSession
  split <;> rfl

@[simp] theorem reduceSession_session (x : Session) (s : State) : (reduceSession x s).lrn.session = none := by
  unfold reduceSession
  split
  · exact detachSession_session x s
  · exact detachSession_session x s

/-- The end of a session brings no context into a frame: it leaves each as it was, or OFF (R70). -/
theorem reduceSession_outside_frame (x : Session) (h : (ctxOf s i).state ≠ .inFrame) :
    (ctxOf (reduceSession x s) i).state ≠ .inFrame := by
  rw [ctxOf, reduceSession_cap]
  unfold detachSession
  cases x.source with
  | sense => exact h
  | learn =>
    cases i with
    | sense => exact h
    | learn => simp [ctxOff, setCtx, Cap.withContext, Cap.context, Context.enterOff]

/-! ### Sessions whose closing mark awaits a frame -/

section
variable {f : State → State} {x : Session}

theorem discarding_unawaited (h : awaiting s i = none) : discarding i f s = f s := by simp only [discarding, h]

theorem discarding_awaited (h : awaiting s i = some x) : discarding i f s = reduceSession x (f s) := by
  simp only [discarding, h]

theorem awaiting_of_no_session (h : s.lrn.session = none) : awaiting s i = none := by simp [awaiting, attachedTo, h]

/-- A session awaits the frame of its own source alone (R68). -/
theorem source_of_awaiting (h : awaiting s i = some x) : s.lrn.session = some x ∧ x.source = i := by
  unfold awaiting at h
  split at h
  · next y hy =>
    split at h
    · cases h; exact attachedTo_eq_some.1 hy
    · cases h
  · cases h

theorem discarding_outside_frame {j : Source} (h : (ctxOf (f s) j).state ≠ .inFrame) :
    (ctxOf (discarding i f s) j).state ≠ .inFrame := by
  unfold discarding
  split
  · exact reduceSession_outside_frame _ h
  · exact h

end

end

/-! ### The masking condition -/

section
variable {s : State}

/-- Where no session awaits a frame, its rise reaches the contexts alone (R55). -/
theorem maskingRises_unawaited (hsense : awaiting s .sense = none) (hlearn : awaiting s .learn = none) :
    maskingRises s = setCtx (setCtx s .sense (ctxOf s .sense).masked) .learn (ctxOf s .learn).masked := by
  have hlearn' : awaiting (setCtx s .sense (ctxOf s .sense).masked) .learn = none := hlearn
  rw [maskingRises, discarding_unawaited hsense, ctxMasked_eq, discarding_unawaited hlearn', ctxMasked_eq]
  rfl

/-- After its rise no frame is in progress (R55). -/
theorem maskingRises_outside_frame (i : Source) : (ctxOf (maskingRises s) i).state ≠ .inFrame := by
  refine discarding_outside_frame ?_
  rw [ctxMasked_eq]
  cases i with
  | learn => exact Context.masked_state _
  | sense =>
    refine discarding_outside_frame (j := .sense) ?_
    rw [ctxMasked_eq]
    exact Context.masked_state _

/-- A session that awaits the frame of either context ends with it (R68). -/
theorem maskingRises_ends_session {x : Session} {i : Source} (h : awaiting s i = some x) :
    (maskingRises s).lrn.session = none := by
  cases i with
  | sense =>
    have hnone := reduceSession_session x (ctxMasked .sense s)
    rw [maskingRises, discarding_awaited h, discarding_unawaited (awaiting_of_no_session hnone), ctxMasked_eq]
    exact hnone
  | learn =>
    obtain ⟨hx, hsource⟩ := source_of_awaiting h
    have hsense : awaiting s .sense = none := by simp [awaiting, attachedTo, hx, hsource]
    have hlearn : awaiting (setCtx s .sense (ctxOf s .sense).masked) .learn = some x := h
    rw [maskingRises, discarding_unawaited hsense, ctxMasked_eq, discarding_awaited hlearn, reduceSession_session]

theorem maskingEnds_eq (s : State) :
    maskingEnds s =
      setCtx (setCtx s .sense ((ctxOf s .sense).unmasked .sense s.cap.rxs s.now)) .learn
        ((ctxOf s .learn).unmasked .learn s.cap.rxl s.now) := by
  rw [maskingEnds, ctxUnmasked_eq, ctxUnmasked_eq]
  rfl

end

end Sys2Proof.Machine
end

section
/-! CONFIGURE with a pair for SENSE_ENABLE (R57, R188): the parameters pair by pair, and the SENSE context at that pair. -/

namespace Sys2Proof.Machine

/-! ### The pairs -/

/-- The parameters after a list of pairs (R188). -/
def Params.updateAll (p : Params) (pairs : List (Nat × Nat)) : Params := pairs.foldl (fun q y => q.update y.1 y.2) p

/-- The state with other parameters. -/
def setParams (p : Params) (s : State) : State := s.withOpc { s.opc with params := p }

section
variable {s : State} {p : Params} {pairs before after : List (Nat × Nat)} {v : Nat}

theorem Params.updateAll_split (p : Params) (before after : List (Nat × Nat)) (y : Nat × Nat) :
    p.updateAll (before ++ y :: after) = ((p.updateAll before).update y.1 y.2).updateAll after := by
  simp [Params.updateAll]

theorem Params.update_senseEnable {id : Nat} (h : id ≠ 0x0B) : (p.update id v).senseEnable = p.senseEnable := by
  unfold Params.update
  split
  case h_11 => exact absurd rfl h
  all_goals rfl

/-- A pair for another parameter sets it and does nothing else (R188). -/
theorem applyPair_other {y : Nat × Nat} (h : y.1 ≠ 0x0B) :
    applyPair s y = setParams (s.opc.params.update y.1 y.2) s := by
  have hkeeps : (s.opc.params.update y.1 y.2).senseEnable = s.opc.params.senseEnable := Params.update_senseEnable h
  simp only [applyPair, State.withOpc_opc, hkeeps]
  rw [if_neg (by omega), if_neg (by omega)]
  rfl

/-- So do several. -/
theorem foldl_applyPair_others (h : ∀ y ∈ pairs, y.1 ≠ 0x0B) :
    pairs.foldl applyPair s = setParams (s.opc.params.updateAll pairs) s := by
  induction pairs generalizing s with
  | nil => rfl
  | cons y pairs ih =>
    obtain ⟨hy, hrest⟩ := List.forall_mem_cons.1 h
    rw [List.foldl_cons, applyPair_other hy, ih hrest]
    rfl

theorem Params.updateAll_senseEnable (h : ∀ y ∈ pairs, y.1 ≠ 0x0B) :
    (p.updateAll pairs).senseEnable = p.senseEnable := by
  induction pairs generalizing p with
  | nil => rfl
  | cons y pairs ih =>
    obtain ⟨hy, hrest⟩ := List.forall_mem_cons.1 h
    exact (ih hrest).trans (Params.update_senseEnable hy)

/-- With one pair for SENSE_ENABLE the others set parameters alone, before it and after it. -/
theorem foldl_applyPair_split (h : ∀ y ∈ before ++ after, y.1 ≠ 0x0B) {t : State}
    (ht : applyPair (setParams (s.opc.params.updateAll before) s) (0x0B, v) = t) :
    (before ++ (0x0B, v) :: after).foldl applyPair s = setParams (t.opc.params.updateAll after) t := by
  have hbefore : ∀ y ∈ before, y.1 ≠ 0x0B := fun y hy => h y (List.mem_append_left _ hy)
  have hafter : ∀ y ∈ after, y.1 ≠ 0x0B := fun y hy => h y (List.mem_append_right _ hy)
  rw [List.foldl_append, List.foldl_cons, foldl_applyPair_others hbefore, ht, foldl_applyPair_others hafter]

/-! ### The pair for SENSE_ENABLE -/

theorem applyPair_disables (h : s.opc.params.senseEnable = 1) :
    applyPair s (0x0B, 0) =
      discarding .sense (ctxOff .sense) (setParams (s.opc.params.update 0x0B 0) s) := by
  have h0 : (s.opc.params.update 0x0B 0).senseEnable = 0 := rfl
  simp only [applyPair, State.withOpc_opc, h0, h, and_self, if_true]
  rfl

theorem applyPair_enables (h : s.opc.params.senseEnable = 0) :
    applyPair s (0x0B, 1) = senseContextEnabled (setParams (s.opc.params.update 0x0B 1) s) := by
  have h1 : (s.opc.params.update 0x0B 1).senseEnable = 1 := rfl
  simp only [applyPair, State.withOpc_opc, h1, h, and_self, if_true, zero_ne_one, false_and, if_false]
  rfl

theorem applyPair_same (h : s.opc.params.senseEnable = v) :
    applyPair s (0x0B, v) = setParams (s.opc.params.update 0x0B v) s := by
  have hv : (s.opc.params.update 0x0B v).senseEnable = v := rfl
  simp only [applyPair, State.withOpc_opc, hv, h]
  rw [if_neg (by omega), if_neg (by omega)]
  rfl

/-- The context that is enabled settles, its wait beginning at once where RXS is inactive (R50, R57). -/
theorem senseContextEnabled_unmasked (h : maskingPresent s = false) :
    senseContextEnabled s =
      setCtx s .sense
        { ((ctxOf s .sense).load .sense s.opc.params).cleared with
          state := .settling
          gapFrom := if s.cap.rxs = (s.opc.params.senseInvert == 1) then none else some s.now } := by
  simp [senseContextEnabled, h, Context.enterSettling, Context.load, activeLevel, Params.invertOf]

theorem senseContextEnabled_masked (h : maskingPresent s = true) :
    senseContextEnabled s = setCtx s .sense ((ctxOf s .sense).load .sense s.opc.params).enterMasked := by
  simp [senseContextEnabled, h]

/-! ### What comes after it -/

/-- The end of a session asks nothing of the parameters (R70 to R76). -/
theorem setParams_reduceSession (x : Session) (p : Params) (s : State) :
    setParams p (reduceSession x s) = reduceSession x (setParams p s) := by
  have hdetach : setParams p (detachSession x s) = detachSession x (setParams p s) := by
    unfold detachSession
    split <;> rfl
  unfold reduceSession
  split
  · rw [failSession, failSession, ← hdetach]; rfl
  · rw [← hdetach]; rfl

theorem opc_reduceSession (x : Session) (s : State) : (reduceSession x s).opc = s.opc :=
  (reduceSession_changes (b := { lrn := true, cap := true, link := true }) ⟨rfl, rfl, rfl⟩ x s).opc rfl

end

/-! ### The request -/

theorem length_of_configPairs {p : List Byte} (h : configPairs p ≠ []) : 3 ≤ p.length := by
  rcases p with _ | ⟨a, _ | ⟨b, _ | ⟨c, p⟩⟩⟩
  · exact absurd rfl h
  · exact absurd rfl h
  · exact absurd rfl h
  · simp

/-- A CONFIGURE whose pairs are all good is answered and applied pair by pair (R188). -/
theorem exec_configure_accepted {dt : Nat} {tag : Byte} {p : List Byte} {s : State}
    (h : PortReady .configure (advance dt s)) (hne : configPairs p ≠ []) (hmax : p.length ≤ 42) (hthree : p.length % 3 = 0)
    (hok : ∀ y ∈ configPairs p, paramOk y.1 y.2 = true) :
    exec (.configure dt tag p) s =
      .next (settleStandby ((configPairs p).foldl applyPair (answered tag .ok [] (advance dt s)))) := by
  have hready : exec (.configure dt tag p) s = .next (settleStandby (ownConfigure tag p (found (advance dt s)))) :=
    event_of_ready h (by simp) (by simp [lengthFits, ReqKind.lengths, length_of_configPairs hne, hmax])
  have hgood : (configPairs p).findIdx? (fun y => !paramOk y.1 y.2) = none := by
    rw [List.findIdx?_eq_none_iff]; simpa using hok
  have hagrees : payloadAgrees .configure p = true := by simp [payloadAgrees, hthree]
  rw [hready, ownConfigure, hagrees, hgood]
  rfl

/-- What the pair for SENSE_ENABLE leaves stands after the request, with the parameters of the pairs after it. -/
theorem exec_configure_split {dt v : Nat} {tag : Byte} {p : List Byte} {before after : List (Nat × Nat)} {s t : State}
    (h : PortReady .configure (advance dt s)) (hmax : p.length ≤ 42) (hthree : p.length % 3 = 0)
    (hpairs : configPairs p = before ++ (0x0B, v) :: after) (hok : ∀ y ∈ configPairs p, paramOk y.1 y.2 = true)
    (hothers : ∀ y ∈ before ++ after, y.1 ≠ 0x0B)
    (ht : applyPair (setParams ((advance dt s).opc.params.updateAll before) (answered tag .ok [] (advance dt s))) (0x0B, v) = t)
    (hstate : t.opc.state = .awake) :
    exec (.configure dt tag p) s = .next (setParams (t.opc.params.updateAll after) t) := by
  rw [exec_configure_accepted h (by simp [hpairs]) hmax hthree hok, hpairs, foldl_applyPair_split hothers ht,
    settleStandby_of_ne]
  simp [setParams, hstate]

/-- Settles O31: the two ends of the masking condition, and a CONFIGURE by its pair for SENSE_ENABLE. -/
theorem maskingDiscardsFrames : Obligations.maskingDiscardsFrames := by
  constructor
  · intro s masked settled
    exact ⟨maskingRises_unawaited, fun x i h => ⟨_, rfl, maskingRises_outside_frame .sense,
      maskingRises_outside_frame .learn, maskingRises_ends_session h⟩, maskingEnds_eq s⟩
  · intro dt v tag p before after x s u c set configured off entered hready hmax hthree hpairs hok hothers
    have hbefore : ∀ y ∈ before, y.1 ≠ 0x0B := fun y hy => hothers y (List.mem_append_left _ hy)
    have hsense : (u.opc.params.updateAll before).senseEnable = u.opc.params.senseEnable :=
      Params.updateAll_senseEnable hbefore
    have hset : set (configPairs p) = ((u.opc.params.updateAll before).update 0x0B v).updateAll after := by
      rw [hpairs]; exact Params.updateAll_split _ _ _ _
    have hconfigured (x : Context) : configured x =
        setCtx (setParams (((u.opc.params.updateAll before).update 0x0B v).updateAll after) (answered tag .ok [] u)) .sense x :=
      congrArg (fun q => setCtx (setParams q (answered tag .ok [] u)) .sense x) hset
    have hexec {t : State} := exec_configure_split (tag := tag) (t := t) hready hmax hthree hpairs hok hothers
    refine ⟨fun h1 hv hw => ?_, fun h1 hv hw => ?_, fun h0 hv hmask => ?_, fun h0 hv hmask => ?_, fun hv => ?_⟩
    · subst hv
      rw [hexec ((applyPair_disables (hsense.trans h1)).trans (discarding_unawaited hw)) rfl, hconfigured]
      rfl
    · subst hv
      have hopc := opc_reduceSession x
      rw [hexec ((applyPair_disables (hsense.trans h1)).trans (discarding_awaited hw)) (by rw [hopc]; rfl),
        setParams_reduceSession, hopc, hconfigured]
      rfl
    · subst hv
      rw [hexec ((applyPair_enables (hsense.trans h0)).trans (senseContextEnabled_unmasked hmask)) rfl, hconfigured]
      rfl
    · subst hv
      rw [hexec ((applyPair_enables (hsense.trans h0)).trans (senseContextEnabled_masked hmask)) rfl, hconfigured]
      rfl
    · rw [hexec (applyPair_same (hsense.trans hv)) rfl, hconfigured]
      rfl

end Sys2Proof.Machine
end

section
/-! The end of a learn session (R70, R71, R76), and what it leaves to be told. -/

namespace Sys2Proof.Machine

section
variable {x : Session} {s : State}

/-- What every end of a session does to the session record and to its source (R70). -/
theorem detachSession_eq (x : Session) (s : State) :
    detachSession x s =
      { s with
        lrn := { s.lrn with session := none }
        cap := if x.source = .learn then { s.cap with learn := s.cap.learn.enterOff } else s.cap } := by
  unfold detachSession
  cases x.source <;> rfl

/-- A session that fails tells its reason, and leaves the staged record (R70, R71). -/
theorem failSession_eq (x : Session) (why : LearnOutcome) (carrier : Nat) (s : State) :
    failSession x why carrier s =
      notified (.learnResult x.tag why carrier 0 0 0 0)
        { s with
          lrn := { s.lrn with session := none }
          cap := if x.source = .learn then { s.cap with learn := s.cap.learn.enterOff } else s.cap } := by
  rw [failSession, detachSession_eq]
  rfl

theorem reduceSession_failed {why : LearnOutcome} (h : x.reduce = .error why) :
    reduceSession x s = failSession x why 0 s := by
  simp only [reduceSession, h]

/-- A session whose frames reduce fills the staged record and tells its sizes (R71, R76). -/
theorem reduceSession_succeeded {r : Record} (h : x.reduce = .ok r) :
    reduceSession x s =
      notified (.learnResult x.tag .ok r.carrier r.classes.length r.body.length r.later.length x.frames.length)
        { s with
          lrn := { session := none, staged := some r }
          cap := if x.source = .learn then { s.cap with learn := s.cap.learn.enterOff } else s.cap } := by
  simp only [reduceSession, h, detachSession_eq]
  rfl

/-- While a session runs standby is not entered (R185). -/
theorem settleStandby_of_session (h : s.lrn.session ≠ none) : settleStandby s = s := by
  have hbusy : noLearnSession s = false := Option.isNone_eq_false_iff.2 (Option.isSome_iff_ne_none.2 h)
  exact settleStandby_of_settled fun hdue => by simp [readyForStandby, hbusy] at hdue

/-- A session that ends in a step tells its result in it, which keeps standby from being entered (R71, R185). -/
theorem settleStandby_failSession (why : LearnOutcome) (carrier : Nat) :
    settleStandby (failSession x why carrier s) = failSession x why carrier s := by
  rw [failSession_eq, settleStandby_notified]

theorem settleStandby_reduceSession : settleStandby (reduceSession x s) = reduceSession x s := by
  cases h : x.reduce with
  | error why => rw [reduceSession_failed h, settleStandby_failSession]
  | ok r => rw [reduceSession_succeeded h, settleStandby_notified]

end

end Sys2Proof.Machine
end

section
/-! LEARN_START, LEARN_STOP and READ_STAGED (R58, R62 to R64). -/

namespace Sys2Proof.Machine

section
variable {dt : Nat} {tag source window : Byte} {hint : Word16} {s : State}

theorem exec_learnStart_of_ready (h : PortReady .learnStart (advance dt s)) :
    exec (.learnStart dt tag source window hint) s =
      .next (settleStandby (ownLearnStart tag ([source, window] ++ word hint.toNat) (found (advance dt s)))) :=
  event_of_ready h (by simp) rfl

theorem exec_learnStop_of_ready (h : PortReady .learnStop (advance dt s)) :
    exec (.learnStop dt tag) s = .next (settleStandby (ownLearnStop tag (found (advance dt s)))) :=
  event_of_ready h (by simp) rfl

theorem exec_readStaged_of_ready (h : PortReady .readStaged (advance dt s)) :
    exec (.readStaged dt tag) s = .next (settleStandby (ownReadStaged tag (found (advance dt s)))) :=
  event_of_ready h (by simp) rfl

/-! ### LEARN_START -/

theorem sourceOfCode_eq_none (h : 2 ≤ source.toNat) : sourceOfCode source = none := by
  have h0 : source ≠ 0x00 := by rintro rfl; exact absurd h (by decide)
  have h1 : source ≠ 0x01 := by rintro rfl; exact absurd h (by decide)
  rw [sourceOfCode, if_neg h0, if_neg h1]

theorem exists_sourceOfCode (h : source.toNat < 2) : ∃ i, sourceOfCode source = some i := by
  have hcode : source = 0x00 ∨ source = 0x01 := by bv_omega
  obtain rfl | rfl := hcode
  · exact ⟨.learn, rfl⟩
  · exact ⟨.sense, rfl⟩

/-- The hint crosses the link in the last two bytes of the request (Table 11-8). -/
theorem wordAt_learnStart (source window : Byte) (hint : Word16) :
    wordAt ([source, window] ++ word hint.toNat) 2 = hint.toNat :=
  byte_toNat_add_byte_toNat hint.isLt

/-- LEARN_START is refused for a source, a window or a hint out of range (R62). -/
theorem ownLearnStart_badArgument
    (h : 2 ≤ source.toNat ∨ 60 < window.toNat ∨ carrierOk hint.toNat = false) :
    ownLearnStart tag ([source, window] ++ word hint.toNat) s = replyStatus tag .badArgument s := by
  have hsource : byteAt ([source, window] ++ word hint.toNat) 0 = source := rfl
  have hwindow : byteAt ([source, window] ++ word hint.toNat) 1 = window := rfl
  simp only [ownLearnStart, hsource, hwindow, wordAt_learnStart]
  cases hi : sourceOfCode source with
  | none => rfl
  | some i =>
    refine if_neg fun ⟨hle, hok⟩ => ?_
    rcases h with h | h | h
    · exact Option.some_ne_none i (hi.symm.trans (sourceOfCode_eq_none h))
    · exact absurd hle (Nat.not_le.2 h)
    · exact Bool.false_ne_true (h.symm.trans hok)

/-- What LEARN_START does once its arguments have passed. -/
theorem ownLearnStart_ofArguments {i : Source} (hi : sourceOfCode source = some i) (hwin : window.toNat ≤ 60)
    (hhint : carrierOk hint.toNat = true) :
    ownLearnStart tag ([source, window] ++ word hint.toNat) s =
      if s.lrn.session.isSome then replyStatus tag .learnActive s
      else beginSession i window.toNat hint.toNat tag (replyStatus tag .ok s) := by
  have hsource : byteAt ([source, window] ++ word hint.toNat) 0 = source := rfl
  have hwindow : byteAt ([source, window] ++ word hint.toNat) 1 = window := rfl
  simp only [ownLearnStart, hsource, hwindow, wordAt_learnStart, hi, hwin, hhint, and_self, if_true]

/-- The session that LEARN_START begins (R62, Table 5-1). -/
def sessionBegun (i : Source) (seconds hint : Nat) (tag : Byte) (s : State) : Session :=
  { state := .waitingFirst, source := i, hint := hint, start := timeBase s, tag := tag,
    windowDue := some (s.now + sec seconds), gapExpiry := none, closing := false, frames := [], measurement := none }

/-- A window of 0 stands for the LEARN_WINDOW of the parameters (R62). -/
def windowSeconds (window : Byte) (s : State) : Nat := if window = 0 then s.opc.params.learnWindow else window.toNat

theorem windowSeconds_eq (window : Byte) (s : State) :
    (if window.toNat = 0 then s.opc.params.learnWindow else window.toNat) = windowSeconds window s := by
  have h : window.toNat = 0 ↔ window = 0 := by bv_omega
  exact if_congr h rfl rfl

theorem beginSession_sense (window : Byte) (hint : Nat) :
    beginSession .sense window.toNat hint tag s =
      s.withLrn { session := some (sessionBegun .sense (windowSeconds window s) hint tag s), staged := none } := by
  rw [← windowSeconds_eq]
  rfl

/-- A session of the source LEARN brings its context out of OFF (R58). -/
theorem beginSession_learn (window : Byte) (hint : Nat) :
    beginSession .learn window.toNat hint tag s =
      learnContextStarts
        (s.withLrn { session := some (sessionBegun .learn (windowSeconds window s) hint tag s), staged := none }) := by
  rw [← windowSeconds_eq]
  rfl

theorem learnContextStarts_unmasked (h : maskingPresent s = false) :
    learnContextStarts s =
      setCtx s .learn { (ctxOf s .learn).enterIdle .learn s.opc.params s.cap.rxl with measure := true } := by
  simp [learnContextStarts, h]

theorem learnContextStarts_masked (h : maskingPresent s = true) :
    learnContextStarts s =
      setCtx s .learn { ((ctxOf s .learn).enterIdle .learn s.opc.params s.cap.rxl).enterMasked with measure := true } := by
  simp [learnContextStarts, h]

/-- A reply and a session's beginning leave the masking condition as it was. -/
theorem maskingPresent_answered_withLrn (u : State) (st : Status) (l : Lrn) :
    maskingPresent ((answered tag st [] u).withLrn l) = maskingPresent u := rfl

/-- A LEARN_START whose arguments are good begins its session in an idle unit (R62). -/
theorem exec_learnStart_begins {i : Source} (h : PortReady .learnStart (advance dt s)) (hi : sourceOfCode source = some i)
    (hwin : window.toNat ≤ 60) (hhint : carrierOk hint.toNat = true) (hidle : (advance dt s).lrn.session = none) :
    exec (.learnStart dt tag source window hint) s =
      .next (beginSession i window.toNat hint.toNat tag (answered tag .ok [] (advance dt s))) := by
  have hidle' : (found (advance dt s)).lrn.session.isSome = false := by simp [found, hidle]
  have hawake : ∀ i, (beginSession i window.toNat hint.toNat tag (answered tag .ok [] (advance dt s))).opc.state = .awake
    | .learn => rfl
    | .sense => rfl
  rw [exec_learnStart_of_ready h, ownLearnStart_ofArguments hi hwin hhint, hidle', replyStatus_found]
  exact congrArg _ (settleStandby_of_ne (by simp [hawake]))

end

/-! ### LEARN_STOP -/

/-- LEARN_STOP in COLLECTING ends the session with the reduction of its frames (R63). -/
theorem exec_learnStop_collecting {dt : Nat} {tag : Byte} {x : Session} {s : State}
    (h : PortReady .learnStop (advance dt s)) (hx : (advance dt s).lrn.session = some x) (hcollecting : x.state = .collecting) :
    exec (.learnStop dt tag) s = .next (reduceSession x (answered tag .ok [] (advance dt s))) := by
  have hown : ownLearnStop tag (found (advance dt s)) = reduceSession x (answered tag .ok [] (advance dt s)) := by
    simp only [ownLearnStop, found, hx, hcollecting]; rfl
  rw [exec_learnStop_of_ready h, hown, settleStandby_reduceSession]

/-- Settles O32: the refusals of LEARN_START and the session it begins, LEARN_STOP by the session's state, READ_STAGED. -/
theorem learnRequests : Obligations.learnRequests := by
  constructor
  · intro dt tag source window hint s u hintOk seconds session hready
    have hcarrier : carrierOk hint.toNat = true ↔ hintOk := carrierOk_iff _
    have hbegins {i : Source} (hi : sourceOfCode source = some i) (hwin : window.toNat ≤ 60) (hhint : hintOk) :=
      exec_learnStart_begins (tag := tag) hready hi hwin (hcarrier.2 hhint)
    refine ⟨fun hbad => ?_, fun hsource hwin hhint hactive => ?_, fun hsource hwin hhint hidle => ?_,
      fun hsource hwin hhint hidle hmask => ?_, fun hsource hwin hhint hidle hmask => ?_⟩
    · have hbad' : 2 ≤ source.toNat ∨ 60 < window.toNat ∨ carrierOk hint.toNat = false := by
        rwa [← hcarrier, Bool.not_eq_true] at hbad
      rw [exec_learnStart_of_ready hready, ownLearnStart_badArgument hbad', replyStatus_found, settleStandby_answered]
    · obtain ⟨i, hi⟩ := exists_sourceOfCode hsource
      have hactive' : (found u).lrn.session.isSome = true := Option.isSome_iff_ne_none.2 hactive
      rw [exec_learnStart_of_ready hready, ownLearnStart_ofArguments hi hwin (hcarrier.2 hhint), if_pos hactive',
        replyStatus_found, settleStandby_answered]
    · subst hsource
      rw [hbegins rfl hwin hhint hidle, beginSession_sense]
      rfl
    · subst hsource
      rw [hbegins rfl hwin hhint hidle, beginSession_learn,
        learnContextStarts_unmasked ((maskingPresent_answered_withLrn ..).trans hmask)]
      rfl
    · subst hsource
      rw [hbegins rfl hwin hhint hidle, beginSession_learn,
        learnContextStarts_masked ((maskingPresent_answered_withLrn ..).trans hmask)]
      rfl
  · intro dt tag s u detached
    refine ⟨fun hready => ⟨fun hidle => ?_, fun x hx hwaiting => ?_, fun x why hx hcollecting hr => ?_,
      fun x r hx hcollecting hr => ?_⟩, fun hready => ⟨fun hempty => ?_, fun r hr => ?_⟩⟩
    · have hown : ownLearnStop tag (found u) = answered tag .wrongState [] u := by
        simp only [ownLearnStop, found, hidle]; rfl
      rw [exec_learnStop_of_ready hready, hown, settleStandby_answered]
    · have hown : ownLearnStop tag (found u) = failSession x .stopped 0 (answered tag .ok [] u) := by
        simp only [ownLearnStop, found, hx, hwaiting]; rfl
      rw [exec_learnStop_of_ready hready, hown, settleStandby_failSession, failSession_eq]
      rfl
    · rw [exec_learnStop_collecting hready hx hcollecting, reduceSession_failed hr, failSession_eq]
      rfl
    · rw [exec_learnStop_collecting hready hx hcollecting, reduceSession_succeeded hr]
      rfl
    · have hown : ownReadStaged tag (found u) = answered tag .noStaged [] u := by
        simp only [ownReadStaged, found, hempty]; rfl
      rw [exec_readStaged_of_ready hready, hown, settleStandby_answered]
    · have hown : ownReadStaged tag (found u) = answered tag .ok ([0xFF, 0x00] ++ r.wire) u := by
        simp only [ownReadStaged, found, hr]; rfl
      rw [exec_readStaged_of_ready hready, hown, settleStandby_answered]

end Sys2Proof.Machine
end

section
/-! The window and end-gap timers of a learn session (R65, R68). -/

namespace Sys2Proof.Machine

section
variable {x : Session} {s : State}

theorem windowEvent_due {d : Nat} (hs : s.lrn.session = some x) (hx : x.state = .waitingFirst)
    (hd : x.windowDue = some d) (hnow : d ≤ s.now) : windowEvent s = failSession x .noSignal 0 s := by
  simp [windowEvent, hs, hx, hd, dueBy, hnow]

theorem windowEvent_early (hs : s.lrn.session = some x) (h : x.state = .collecting ∨ dueBy x.windowDue s.now = false) :
    windowEvent s = s := by
  rcases h with h | h <;> simp [windowEvent, hs, h]

theorem gapExpired_iff :
    gapExpired x s = true ↔ x.state = .collecting ∧ ∃ t, x.gapExpiry = some t ∧ (timeBase s - t).msb = false := by
  unfold gapExpired
  cases x.state <;> cases x.gapExpiry <;> simp [stampBefore]

/-- The end-gap timer has not expired before a first frame has set it, nor before its moment (R66 to R68). -/
theorem gapExpired_eq_false
    (h : x.state = .waitingFirst ∨ x.gapExpiry = none ∨ ∃ t, x.gapExpiry = some t ∧ (timeBase s - t).msb = true) :
    gapExpired x s = false := by
  rw [Bool.eq_false_iff, Ne, gapExpired_iff]
  rintro ⟨hx, t, ht, hnow⟩
  rcases h with hw | hn | ⟨t', ht', hnow'⟩
  · exact absurd (hw.symm.trans hx) (by decide)
  · exact Option.some_ne_none t (ht.symm.trans hn)
  · obtain rfl : t = t' := Option.some.inj (ht.symm.trans ht')
    exact Bool.false_ne_true (hnow.symm.trans hnow')

theorem endGapEvent_due (hs : s.lrn.session = some x) (h : gapExpired x s = true) : endGapEvent s = endGapExpires x s := by
  simp only [endGapEvent, hs, h, if_true]

theorem endGapEvent_early (hs : s.lrn.session = some x) (h : gapExpired x s = false) : endGapEvent s = s := by
  simp [endGapEvent, hs, h]

/-- While a frame is in progress the end-gap expiry sets the closing mark (R68). -/
theorem endGapExpires_inFrame (h : (ctxOf s x.source).state = .inFrame) :
    endGapExpires x s = setSession { x with closing := true } s := if_pos h

theorem endGapExpires_reduces (h : (ctxOf s x.source).state ≠ .inFrame) : endGapExpires x s = reduceSession x s := if_neg h

end

/-- Settles O33: each timer at its moment, by the session's state and its context's, and before it. -/
theorem sessionTimersExpire : Obligations.sessionTimersExpire := by
  intro dt d x t s u detached hs
  have hwindow : exec (.windowExpiry dt) s = .next (settleStandby (windowEvent u)) := rfl
  have hgap : exec (.endGapExpiry dt) s = .next (settleStandby (endGapEvent u)) := rfl
  have hkeeps : settleStandby u = u := settleStandby_of_session (by simp [hs])
  have hdue (hx : x.state = .collecting) (ht : x.gapExpiry = some t)
      (hnow : (BitVec.ofNat 32 (u.now / 40) - t).msb = false) : endGapEvent u = endGapExpires x u :=
    endGapEvent_due hs (gapExpired_iff.2 ⟨hx, t, ht, hnow⟩)
  rw [hwindow, hgap]
  refine ⟨fun hx hd hnow => ?_, fun hearly => ?_, fun hx ht hnow hctx => ?_, fun why hx ht hnow hctx hr => ?_,
    fun r hx ht hnow hctx hr => ?_, fun hearly => ?_⟩
  · rw [windowEvent_due hs hx hd hnow, settleStandby_failSession, failSession_eq]
  · have hnotDue : x.state = .collecting ∨ dueBy x.windowDue u.now = false := by
      rcases hearly with hx | hd | ⟨hd, hnow⟩
      · exact .inl hx
      · exact .inr (by simp [dueBy, hd])
      · exact .inr (by simp [dueBy, hd, hnow])
    rw [windowEvent_early hs hnotDue, hkeeps]
  · rw [hdue hx ht hnow, endGapExpires_inFrame hctx, settleStandby_of_session (by simp [setSession])]
    rfl
  · rw [hdue hx ht hnow, endGapExpires_reduces hctx, settleStandby_reduceSession, reduceSession_failed hr, failSession_eq]
  · rw [hdue hx ht hnow, endGapExpires_reduces hctx, settleStandby_reduceSession, reduceSession_succeeded hr]
  · have hnotExpired : gapExpired x u = false :=
      gapExpired_eq_false (hearly.imp_right (.imp_right fun ⟨ht, hnow⟩ => ⟨t, ht, hnow⟩))
    rw [endGapEvent_early hs hnotExpired, hkeeps]

end Sys2Proof.Machine
end

section
/-! What a learn session does with the deliveries of its context: frames and capture errors (R66, R67, R69). -/

namespace Sys2Proof.Machine

/-! ### To whom a delivery goes -/

section
variable {s : State} {x : Session} {i : Source}

theorem attachedTo_of_no_session (h : s.lrn.session = none) : attachedTo s i = none := by simp [attachedTo, h]

/-- An idle Learn Unit passes a frame over (R69). -/
theorem learnTakesFrame_idle (h : s.lrn.session = none) (f : Frame) (m : Option Measurement) :
    learnTakesFrame i f m s = s := by
  simp only [learnTakesFrame, attachedTo_of_no_session h]

/-- The running session takes the frames of its own context. -/
theorem learnTakesFrame_source (hs : s.lrn.session = some x) (f : Frame) (m : Option Measurement) :
    learnTakesFrame x.source f m s = sessionTakesFrame x f m s := by
  simp only [learnTakesFrame, attachedTo_eq_some.2 ⟨hs, rfl⟩]

theorem learnTakesError_idle (h : s.lrn.session = none) (e : CaptureError) (stamp : Stamp) :
    learnTakesError i e stamp s = s := by
  simp only [learnTakesError, attachedTo_of_no_session h]

/-- A capture error before the first frame fails the session (R66). -/
theorem learnTakesError_waiting (hs : s.lrn.session = some x) (hx : x.state = .waitingFirst) (e : CaptureError)
    (stamp : Stamp) : learnTakesError x.source e stamp s = failSession x e.outcome e.figure s := by
  simp only [learnTakesError, attachedTo_eq_some.2 ⟨hs, rfl⟩, hx]

/-- A capture error in COLLECTING sets the end-gap timer anew (R67; log entry 9). -/
theorem learnTakesError_collecting (hs : s.lrn.session = some x) (hx : x.state = .collecting) (e : CaptureError)
    (stamp : Stamp) :
    learnTakesError x.source e stamp s =
      endGapAtOnce { x with gapExpiry := some (nextGapExpiry stamp s), closing := false } s := by
  simp only [learnTakesError, attachedTo_eq_some.2 ⟨hs, rfl⟩, hx]

end

/-! ### What a session does with a frame -/

section
variable {s : State} {x : Session} {f : Frame} {m : Option Measurement} {t : Stamp}

/-- A session whose end-gap timer has time left goes on (R67). -/
theorem endGapAtOnce_running (ht : x.gapExpiry = some t) (h : (timeBase s - t).msb = true) :
    endGapAtOnce x s = setSession x s := by
  rw [endGapAtOnce, gapExpired_eq_false (.inr (.inr ⟨t, ht, h⟩))]
  exact if_neg Bool.false_ne_true

/-- A frame that began before the session is passed over (R66). -/
theorem sessionTakesFrame_before (hx : x.state = .waitingFirst) (hf : (f.start - x.start).msb = true) :
    sessionTakesFrame x f m s = s := by
  simp only [sessionTakesFrame, hx]
  exact if_pos hf

/-- The first other frame is F1 (R66). -/
theorem sessionTakesFrame_first (hx : x.state = .waitingFirst) (hf : (f.start - x.start).msb = false) :
    sessionTakesFrame x f m s =
      endGapAtOnce { x with state := .collecting, windowDue := none, gapExpiry := some (nextGapExpiry f.stop s),
                            frames := [f], measurement := m } s := by
  simp only [sessionTakesFrame, hx, stampBefore, hf]
  exact if_neg Bool.false_ne_true

/-- A frame that began before the expiry joins the set (R67). -/
def Session.joinedBy (x : Session) (f : Frame) (expiry : Stamp) : Session :=
  { x with gapExpiry := some expiry, frames := x.frames ++ [f], closing := false }

theorem sessionTakesFrame_good (hx : x.state = .collecting) (ht : x.gapExpiry = some t) (hf : (f.start - t).msb = true) :
    sessionTakesFrame x f m s =
      if 3 ≤ x.frames.length then reduceSession (x.joinedBy f (nextGapExpiry f.stop s)) s
      else endGapAtOnce (x.joinedBy f (nextGapExpiry f.stop s)) s := by
  simp [sessionTakesFrame, hx, ht, stampBefore, hf, Session.joinedBy]

/-- A frame that began no earlier sets the timer anew and does nothing else (R67; log entry 37). -/
theorem sessionTakesFrame_late (hx : x.state = .collecting) (ht : x.gapExpiry = some t) (hf : (f.start - t).msb = false)
    (hroom : x.frames.length < 4) :
    sessionTakesFrame x f m s = endGapAtOnce { x with gapExpiry := some (nextGapExpiry f.stop s) } s := by
  simp [sessionTakesFrame, hx, ht, stampBefore, hf, hroom]

end

/-- Settles O34: an idle unit, the first frame, good and late frames, the fourth, and capture errors by the session's state. -/
theorem sessionTakesFrames : Obligations.sessionTakesFrames := by
  intro x f m t s next notYet
  refine ⟨fun input hs => learnTakesFrame_idle hs f m, fun hs hx hf => ?_, fun hs hx hf hnow => ?_,
    fun hs hx ht hf hnow hlen => ?_, fun hs hx ht hf hnow hlen => ?_, fun hs hx ht hf hlen => ?_,
    fun y => reduceSession_session y s, fun input why stamp hs => learnTakesError_idle hs why stamp,
    fun why stamp hs hx => learnTakesError_waiting hs hx why stamp, fun why stamp hs hx hnow => ?_⟩
  · rw [learnTakesFrame_source hs, sessionTakesFrame_before hx hf]
  · rw [learnTakesFrame_source hs, sessionTakesFrame_first hx hf, endGapAtOnce_running rfl hnow]
    rfl
  · rw [learnTakesFrame_source hs, sessionTakesFrame_good hx ht hf, if_neg (by omega), endGapAtOnce_running rfl hnow]
    rfl
  · rw [learnTakesFrame_source hs, sessionTakesFrame_late hx ht hf hlen, endGapAtOnce_running rfl hnow]
    rfl
  · rw [learnTakesFrame_source hs, sessionTakesFrame_good hx ht hf, if_pos hlen.ge]
    rfl
  · rw [learnTakesError_collecting hs hx, endGapAtOnce_running rfl hnow]
    rfl

end Sys2Proof.Machine
end

section
/-! The duration classes of a frame set (R72): their values ascend strictly and lie within the range of Table 2-2. -/

namespace Sys2Proof.Machine

/-! ### The ascending list of durations -/

theorem sortAscending_eq (l : List Nat) : sortAscending l = l.insertionSort (· ≤ ·) := by
  have hplace (a : Nat) (l : List Nat) : sortAscending.place a l = l.orderedInsert (· ≤ ·) a := by
    induction l with
    | nil => rfl
    | cons b l ih => simp only [sortAscending.place, List.orderedInsert_cons, ih]
  induction l with
  | nil => rfl
  | cons a l ih => rw [sortAscending, hplace, ih, List.insertionSort_cons]

theorem sortAscending_pairwise (l : List Nat) : (sortAscending l).Pairwise (· ≤ ·) := by
  rw [sortAscending_eq]; exact List.pairwise_insertionSort _ l

theorem mem_sortAscending {l : List Nat} {v : Nat} : v ∈ sortAscending l ↔ v ∈ l := by
  rw [sortAscending_eq]; exact List.mem_insertionSort _

/-! ### The classes of an ascending list -/

/-- The mean of a class's members, halves up, before it is raised to 10 (R72). -/
def ValueClass.mean (c : ValueClass) : Nat := (2 * c.total + c.count) / (2 * c.count)

theorem ValueClass.value_eq (c : ValueClass) : c.value = max 10 c.mean := rfl

/-- The members of a class lie within two bounds, and the greater is one that its opener admits (R72). -/
structure ValueClass.Spans (c : ValueClass) (lo hi : Nat) : Prop where
  pos : 0 < c.count
  lower : lo * c.count ≤ c.total
  upper : c.total ≤ hi * c.count
  admits : 100 * hi ≤ 115 * c.opener

section
variable {c : ValueClass} {lo hi : Nat}

/-- The mean lies between the bounds of the members; a half rounded up does not pass a whole number. -/
theorem ValueClass.Spans.mean_bounds (h : c.Spans lo hi) : lo ≤ c.mean ∧ c.mean ≤ hi := by
  obtain ⟨hpos, hlower, hupper, -⟩ := h
  constructor
  · rw [ValueClass.mean, Nat.le_div_iff_mul_le (by omega)]
    linarith
  · rw [ValueClass.mean, ← Nat.lt_succ_iff, Nat.div_lt_iff_lt_mul (by omega), Nat.succ_mul]
    linarith

theorem ValueClass.spans_singleton (v : Nat) : ValueClass.Spans { opener := v, total := v, count := 1 } v v :=
  ⟨Nat.one_pos, (Nat.mul_one v).le, (Nat.mul_one v).ge, Nat.mul_le_mul_right v (by decide)⟩

/-- A class keeps its bounds when a value not below them joins it. -/
theorem ValueClass.Spans.join (h : c.Spans lo hi) {v : Nat} (hv : hi ≤ v) (hopen : 100 * v ≤ 115 * c.opener) :
    ValueClass.Spans { c with total := c.total + v, count := c.count + 1 } lo v := by
  have hlo : lo ≤ v := (h.mean_bounds.1.trans h.mean_bounds.2).trans hv
  have hupper : c.total ≤ v * c.count := h.upper.trans (Nat.mul_le_mul_right _ hv)
  refine ⟨Nat.succ_pos _, ?_, ?_, hopen⟩
  · show lo * (c.count + 1) ≤ c.total + v
    rw [Nat.mul_succ]; exact Nat.add_le_add h.lower hlo
  · show c.total + v ≤ v * (c.count + 1)
    rw [Nat.mul_succ]; exact Nat.add_le_add_right hupper v

end

/-- The classes after the one being built: a value that opens a class lies above every member before it, so the means ascend
strictly; and each lies within the bounds of the members. -/
theorem classesFrom_means {top : Nat} (l : List Nat) {cur : ValueClass} {lo hi : Nat} (hcur : cur.Spans lo hi)
    (hl : (hi :: l).Pairwise (· ≤ ·)) (htop : ∀ v ∈ hi :: l, v ≤ top) :
    (classesFrom cur l).Pairwise (fun a b => a.mean < b.mean) ∧ ∀ c ∈ classesFrom cur l, lo ≤ c.mean ∧ c.mean ≤ top := by
  obtain ⟨hlo, hhi⟩ := hcur.mean_bounds
  induction l generalizing cur lo hi with
  | nil =>
    have := htop hi List.mem_cons_self
    simp only [classesFrom, List.pairwise_singleton, List.mem_singleton, forall_eq, true_and]
    omega
  | cons v l ih =>
    obtain ⟨hge, hl⟩ := List.pairwise_cons.1 hl
    obtain ⟨htophi, htop⟩ := List.forall_mem_cons.1 htop
    have hv : hi ≤ v := hge v List.mem_cons_self
    unfold classesFrom
    split
    · next hopen =>
      have hjoin := hcur.join hv hopen
      exact ih hjoin hl htop hjoin.mean_bounds.1 hjoin.mean_bounds.2
    · next hopen =>
      have hlt : hi < v := by have := hcur.admits; omega
      have hsingle := ValueClass.spans_singleton v
      obtain ⟨hpair, hbounds⟩ := ih hsingle hl htop hsingle.mean_bounds.1 hsingle.mean_bounds.2
      refine ⟨List.pairwise_cons.2 ⟨fun c hc => ?_, hpair⟩, List.forall_mem_cons.2 ⟨⟨hlo, hhi.trans htophi⟩, fun c hc => ?_⟩⟩
      · have := (hbounds c hc).1
        omega
      · exact ⟨by have := (hbounds c hc).1; omega, (hbounds c hc).2⟩

theorem classesOf_means {top : Nat} {l : List Nat} (hl : l.Pairwise (· ≤ ·)) (htop : ∀ v ∈ l, v ≤ top) :
    (classesOf l).Pairwise (fun a b => a.mean < b.mean) ∧ ∀ c ∈ classesOf l, c.mean ≤ top := by
  cases l with
  | nil => simp [classesOf]
  | cons v l =>
    obtain ⟨hpair, hbounds⟩ := classesFrom_means l (ValueClass.spans_singleton v) hl htop
    exact ⟨hpair, fun c hc => (hbounds c hc).2⟩

theorem classesOf_ne_nil {l : List Nat} (h : l ≠ []) : classesOf l ≠ [] := by
  have hfrom (cur : ValueClass) (l : List Nat) : classesFrom cur l ≠ [] := by
    induction l generalizing cur with
    | nil => simp [classesFrom]
    | cons v l ih => unfold classesFrom; split <;> simp [ih]
  cases l with
  | nil => exact absurd rfl h
  | cons v l => exact hfrom _ l

/-! ### The merging of the classes of value 10 -/

theorem mem_mergeTens {seen : Bool} {l : List ValueClass} {p : Nat × Nat} (h : p ∈ mergeTens seen l) :
    ∃ c ∈ l, p.2 = c.value := by
  induction l generalizing seen with
  | nil => simp [mergeTens] at h
  | cons c l ih =>
    unfold mergeTens at h
    split at h
    · obtain ⟨c', hc', hp⟩ := ih h
      exact ⟨c', List.mem_cons_of_mem _ hc', hp⟩
    · rcases List.mem_cons.1 h with rfl | h
      · exact ⟨c, List.mem_cons_self, rfl⟩
      · obtain ⟨c', hc', hp⟩ := ih h
        exact ⟨c', List.mem_cons_of_mem _ hc', hp⟩

/-- After a class of value 10 no other is kept: in ascending classes none comes after the first of a greater value. -/
theorem mergeTens_seen {l : List ValueClass} (hl : l.Pairwise fun a b => a.mean < b.mean) {p : Nat × Nat}
    (h : p ∈ mergeTens true l) : 10 < p.2 := by
  induction l with
  | nil => simp [mergeTens] at h
  | cons c l ih =>
    obtain ⟨hlt, hl⟩ := List.pairwise_cons.1 hl
    unfold mergeTens at h
    split at h
    · exact ih hl h
    · next hten =>
      have hc : 10 < c.mean := by
        have hne : c.value ≠ 10 := fun hv => hten ⟨hv, rfl⟩
        rw [ValueClass.value_eq] at hne; omega
      rcases List.mem_cons.1 h with rfl | h
      · exact lt_max_of_lt_right hc
      · obtain ⟨c', hc', hp⟩ := mem_mergeTens h
        rw [hp, ValueClass.value_eq]
        exact lt_max_of_lt_right (hc.trans (hlt c' hc'))

/-- The values that the merging leaves ascend strictly. -/
theorem mergeTens_pairwise {l : List ValueClass} (hl : l.Pairwise fun a b => a.mean < b.mean) (seen : Bool) :
    ((mergeTens seen l).map (·.2)).Pairwise (· < ·) := by
  induction l generalizing seen with
  | nil => simp [mergeTens]
  | cons c l ih =>
    obtain ⟨hlt, hl⟩ := List.pairwise_cons.1 hl
    unfold mergeTens
    split
    · exact ih hl true
    · refine List.pairwise_cons.2 ⟨List.forall_mem_map.2 fun p hp => ?_, ih hl _⟩
      by_cases hten : c.value = 10
      · rw [beq_iff_eq.2 hten] at hp
        exact hten ▸ mergeTens_seen hl hp
      · obtain ⟨c', hc', hpv⟩ := mem_mergeTens hp
        have := hlt c' hc'
        rw [hpv]
        simp only [ValueClass.value_eq] at hten ⊢
        omega

/-! ### The classes of a frame set -/

section
variable {frames : List Frame}

theorem durationClasses_ascending (frames : List Frame) : ((durationClasses frames).map (·.2)).Pairwise (· < ·) :=
  mergeTens_pairwise (classesOf_means (sortAscending_pairwise _) fun _ hv => List.le_sum_of_mem hv).1 false

theorem durationClasses_range (h : ∀ f ∈ frames, ∀ d ∈ f.durations, d ≤ 64999) :
    ∀ v ∈ (durationClasses frames).map (·.2), 10 ≤ v ∧ v ≤ 65000 := by
  have htop : ∀ v ∈ sortAscending (frames.flatMap (·.durations)), v ≤ 64999 := fun v hv => by
    obtain ⟨f, hf, hd⟩ := List.mem_flatMap.1 (mem_sortAscending.1 hv)
    exact h f hf v hd
  refine List.forall_mem_map.2 fun p hp => ?_
  obtain ⟨c, hc, hpv⟩ := mem_mergeTens hp
  have := (classesOf_means (sortAscending_pairwise _) htop).2 c hc
  rw [hpv, ValueClass.value_eq]
  omega

theorem durationClasses_ne_nil {f : Frame} (hf : f ∈ frames) (hd : f.durations ≠ []) : durationClasses frames ≠ [] := by
  obtain ⟨d, hd⟩ := List.exists_mem_of_ne_nil _ hd
  have hmem : d ∈ sortAscending (frames.flatMap (·.durations)) := mem_sortAscending.2 (List.mem_flatMap.2 ⟨f, hf, hd⟩)
  obtain ⟨c, l, hl⟩ := List.exists_cons_of_ne_nil (classesOf_ne_nil (List.ne_nil_of_mem hmem))
  rw [durationClasses, hl, mergeTens, if_neg (by simp)]
  exact List.cons_ne_nil _ _

end

end Sys2Proof.Machine
end

section
/-! The pair lists of a frame set and the record that they reduce to (R73 to R75). -/

namespace Sys2Proof.Machine

/-! ### The pair list of a frame -/

theorem length_pairsOf (numbers : List Nat) : (pairsOf numbers).length = (numbers.length + 1) / 2 := by
  induction numbers using pairsOf.induct with
  | case1 => rfl
  | case2 m => simp [pairsOf]
  | case3 m sp rest ih => simp only [pairsOf, List.length_cons, ih]; omega

/-- The numbers of a frame's marks and spaces make a good pair list: END stands in the last pair alone, since a frame ends with a
mark (R73). -/
theorem pairsOf_ok {classes : Nat} (numbers : List Nat) (hodd : numbers.length % 2 = 1) (h : ∀ n ∈ numbers, n < classes) :
    EveryItem (PairOk classes (pairsOf numbers).length) (pairsOf numbers) := by
  induction numbers using pairsOf.induct with
  | case1 => exact everyItem_nil
  | case2 m => simpa [pairsOf, everyItem_cons, PairOk] using h
  | case3 m sp rest ih =>
    simp only [List.forall_mem_cons] at h
    obtain ⟨hm, hsp, hrest⟩ := h
    have hodd' : rest.length % 2 = 1 := by simp only [List.length_cons] at hodd; omega
    simp only [pairsOf, List.length_cons, everyItem_cons, pairOk_succ]
    refine ⟨⟨hm, fun c hc => Option.some.inj hc ▸ hsp, ?_⟩, ih hodd' hrest⟩
    simp only [length_pairsOf, reduceCtorEq, false_iff]
    omega

theorem classNumber_lt {table : List (Nat × Nat)} (h : table ≠ []) (v : Nat) : classNumber table v < table.length := by
  have hpos := List.length_pos_iff.2 h
  have hle := List.countP_le_length (p := fun c : Nat × Nat => decide (c.1 ≤ v)) (l := table)
  unfold classNumber
  omega

section
variable {table : List (Nat × Nat)} {f : Frame}

theorem length_framePairs (table : List (Nat × Nat)) (f : Frame) :
    (framePairs table f).length = (f.durations.length + 1) / 2 := by
  rw [framePairs, length_pairsOf, List.length_map]

theorem framePairs_ok (htable : table ≠ []) (hodd : f.durations.length % 2 = 1) :
    EveryItem (PairOk table.length (framePairs table f).length) (framePairs table f) :=
  pairsOf_ok _ (by rwa [List.length_map]) (List.forall_mem_map.2 fun v _ => classNumber_lt htable v)

end

/-! ### Body and repeat part -/

/-- The body is the pair list of a frame; so is the repeat part, unless it is absent (R74). -/
theorem bodyAndRepeat_ok {lists : List (List Pair)} {body later : List Pair} (h : bodyAndRepeat lists = .ok (body, later)) :
    body ∈ lists ∧ (later = [] ∨ later ∈ lists ∧ later.length ≤ 32) := by
  match lists with
  | [] => simp [bodyAndRepeat] at h
  | [f1] =>
    obtain ⟨rfl, rfl⟩ : f1 = body ∧ [] = later := by simpa [bodyAndRepeat] using h
    simp
  | f1 :: f2 :: rest =>
    simp only [bodyAndRepeat] at h
    split at h
    · split at h <;> simp only [Except.ok.injEq, Prod.mk.injEq, reduceCtorEq] at h
      obtain ⟨rfl, rfl⟩ := h
      simp
    · split at h
      · split at h <;> simp only [Except.ok.injEq, Prod.mk.injEq, reduceCtorEq] at h
        next hlen =>
        obtain ⟨rfl, rfl⟩ := h
        exact ⟨List.mem_cons_self, .inr ⟨by simp, Nat.not_lt.1 hlen⟩⟩
      · simp at h

theorem repeatInterval_le (frames : List Frame) : repeatInterval frames ≤ 1000 := by
  unfold repeatInterval
  split
  · exact Nat.min_le_left ..
  · exact Nat.zero_le _

/-! ### The record -/

/-- What a reduction that succeeds has found: 8 classes at most, the pair lists of R74, and the fields of R75. -/
theorem Session.reduce_ok {x : Session} {r : Record} (h : x.reduce = .ok r) :
    (durationClasses x.frames).length ≤ 8 ∧
      ∃ body later, bodyAndRepeat (x.frames.map (framePairs (durationClasses x.frames))) = .ok (body, later) ∧
        r = { carrier := x.carrierDuty.carrier, duty := x.carrierDuty.duty,
              classes := (durationClasses x.frames).map (·.2), body := body, later := later,
              interval := repeatInterval x.frames, minFrames := 1, label := [] } := by
  unfold Session.reduce at h
  dsimp only at h
  split at h
  · exact absurd h (by simp)
  · next hlen =>
    refine ⟨Nat.not_lt.1 hlen, ?_⟩
    split at h
    · exact absurd h (by simp)
    · next body later hlists => exact ⟨body, later, hlists, (Except.ok.inj h).symm⟩

/-- Settles O35: the classes by their means, the pair lists by the frames they stand for, the other fields by R75. -/
theorem reducedRecordIsValid : Obligations.reducedRecordIsValid := by
  intro x r hframes hcarrier hduty hreduce
  obtain ⟨hlen, body, later, hlists, rfl⟩ := Session.reduce_ok hreduce
  obtain ⟨hbody, hlater⟩ := bodyAndRepeat_ok hlists
  obtain ⟨f, hf, rfl⟩ := List.mem_map.1 hbody
  obtain ⟨hodd, hmarks, -⟩ := hframes f hf
  have htable : durationClasses x.frames ≠ [] :=
    durationClasses_ne_nil hf fun hnil => by simp [hnil] at hodd
  have hlaterLength : later.length ≤ 32 := by
    rcases hlater with rfl | ⟨-, hle⟩
    · decide
    · exact hle
  have hlaterPairs : EveryItem (PairOk (durationClasses x.frames).length later.length) later := by
    rcases hlater with rfl | ⟨hmem, -⟩
    · exact everyItem_nil
    · obtain ⟨g, hg, rfl⟩ := List.mem_map.1 hmem
      exact framePairs_ok htable (hframes g hg).1
  have hrange := durationClasses_range fun f hf d hd => ((hframes f hf).2.2 d hd).2
  refine ⟨(recordFault_eq_none_iff _).2 fun field _ _ => ?_, durationClasses_ascending x.frames, rfl, rfl, rfl, rfl⟩
  match field with
  | 1 => exact (carrierOk_iff _).1 hcarrier
  | 2 => exact hduty
  | 3 => simpa [Record.FieldOk] using ⟨List.length_pos_iff.2 htable, hlen⟩
  | 4 => exact fun k d hk => hrange d (List.mem_of_getElem? hk)
  | 5 => simp only [Record.FieldOk, length_framePairs]; omega
  | 6 => exact hlaterLength
  | 7 => simpa [Record.FieldOk] using framePairs_ok htable hodd
  | 8 => simpa [Record.FieldOk] using hlaterPairs
  | 9 => exact repeatInterval_le _
  | 10 => simp [Record.FieldOk]
  | 11 => exact Nat.zero_le _
  | 12 => exact everyItem_nil
  | 0 | _ + 13 => trivial

end Sys2Proof.Machine
end

section
/-! Matching (R83) and the search for a frame (R84). -/

namespace Sys2Proof.Machine

/-! ### Matching -/

theorem allWithin_iff (tolerance : Nat) (d vs : List Nat) :
    allWithin tolerance d vs = true ↔ List.Forall₂ (fun x v => withinTolerance tolerance x v = true) d vs := by
  induction d, vs using allWithin.induct with
  | case1 => simp [allWithin]
  | case2 x d v vs ih => simp [allWithin, ih]
  | case3 d vs hnil hcons =>
    match d, vs with
    | [], [] => exact absurd rfl (hnil rfl)
    | [], _ :: _ | _ :: _, [] => simp [allWithin]
    | x :: d, v :: vs => exact absurd rfl (hcons x d v vs rfl)

/-- A frame matches a pair list element by element (R83). -/
theorem matchesList_iff (tolerance : Nat) (classes : List Nat) (pairs : List Pair) (d : List Nat) :
    matchesList tolerance classes pairs d = true ↔
      pairs ≠ [] ∧ d.length = (elementClasses pairs).length ∧
        ∀ (i v c : Nat), d[i]? = some v → (elementClasses pairs)[i]? = some c →
          100 * ((v - classes.getD c 0) + (classes.getD c 0 - v)) ≤ tolerance * classes.getD c 0 := by
  rw [matchesList, Bool.and_eq_true, allWithin_iff, elementDurations, List.forall₂_map_right_iff, List.forall₂_iff_get]
  simp only [Bool.not_eq_true', List.isEmpty_eq_false_iff, withinTolerance, decide_eq_true_eq, List.get_eq_getElem,
    List.getElem?_eq_some_iff, forall_exists_index]
  refine and_congr_right fun _ => and_congr_right fun _ => ⟨?_, fun h i h₁ h₂ => h i _ _ h₁ rfl h₂ rfl⟩
  rintro h i _ _ h₁ rfl h₂ rfl
  exact h i h₁ h₂

/-- A pair list whose END stands in its last pair alone names a mark and a space for each pair before it, and a last mark (R2). -/
theorem length_elementClasses {pairs : List Pair} {last : Pair} (h : ∀ q ∈ pairs, q.space ≠ none) (hlast : last.space = none) :
    (elementClasses (pairs ++ [last])).length = 2 * pairs.length + 1 := by
  induction pairs with
  | nil => simp [elementClasses, hlast]
  | cons q pairs ih =>
    obtain ⟨hq, hpairs⟩ := List.forall_mem_cons.1 h
    obtain ⟨c, hc⟩ := Option.ne_none_iff_exists'.1 hq
    simp only [List.cons_append, elementClasses, hc, List.length_cons, ih hpairs]
    omega

/-! ### The lowest slot whose body matches -/

section
variable {α : Type} {l : List (Nat × α)}

/-- A canonical table lists under a key the one entry that it holds with that key. -/
theorem Table.get_eq_some_iff (hwf : Table.wf l = true) {k : Nat} {v : α} : Table.get l k = some v ↔ (k, v) ∈ l := by
  refine ⟨Table.mem_of_get, fun hmem => ?_⟩
  induction l with
  | nil => simp at hmem
  | cons p rest ih =>
    obtain ⟨hlt, hrest⟩ := Table.wf_cons.1 hwf
    rcases List.mem_cons.1 hmem with rfl | hmem
    · simp [Table.get]
    · simp [Table.get, (hlt _ hmem).ne, ih hrest hmem]

/-- A search through a canonical table finds the entry of the lowest key that meets the condition. -/
theorem Table.find?_eq_some_iff (hwf : Table.wf l = true) {P : Nat × α → Bool} {x : Nat × α} :
    l.find? P = some x ↔ x ∈ l ∧ P x = true ∧ ∀ y ∈ l, P y = true → x.1 ≤ y.1 := by
  induction l with
  | nil => simp
  | cons p rest ih =>
    obtain ⟨hlt, hrest⟩ := Table.wf_cons.1 hwf
    by_cases hp : P p = true
    · rw [List.find?_cons_of_pos hp]
      constructor
      · rintro ⟨rfl⟩
        exact ⟨List.mem_cons_self, hp, List.forall_mem_cons.2 ⟨fun _ => le_rfl, fun y hy _ => (hlt y hy).le⟩⟩
      · rintro ⟨hx, -, hlowest⟩
        rcases List.mem_cons.1 hx with rfl | hx
        · rfl
        · exact absurd (hlowest p List.mem_cons_self hp) (Nat.not_le.2 (hlt x hx))
    · have hne : P x = true → x ≠ p := by rintro hx rfl; exact hp hx
      simp only [List.find?_cons_of_neg hp, ih hrest, List.mem_cons, forall_eq_or_imp, hp]
      tauto

end

section
variable {tolerance : Nat} {d : List Nat} {index : List (Nat × IndexEntry)}

theorem firstBody_eq_find? (tolerance : Nat) (d : List Nat) (index : List (Nat × IndexEntry)) :
    firstBody tolerance d index = index.find? fun p => bodyMatches tolerance d p.2 := by
  induction index with
  | nil => rfl
  | cons p rest ih => by_cases hp : bodyMatches tolerance d p.2 = true <;> simp [firstBody, hp, ih]

theorem firstBody_eq_some_iff (hwf : Table.wf index = true) {slot : Nat} {e : IndexEntry} :
    firstBody tolerance d index = some (slot, e) ↔
      Table.get index slot = some e ∧ bodyMatches tolerance d e = true ∧
        ∀ (k : Nat) (y : IndexEntry), Table.get index k = some y → bodyMatches tolerance d y = true → slot ≤ k := by
  simp only [firstBody_eq_find?, Table.find?_eq_some_iff hwf, Table.get_eq_some_iff hwf, Prod.forall]

theorem firstBody_eq_none_iff (hwf : Table.wf index = true) :
    firstBody tolerance d index = none ↔
      ∀ (k : Nat) (y : IndexEntry), Table.get index k = some y → ¬bodyMatches tolerance d y = true := by
  simp only [firstBody_eq_find?, List.find?_eq_none, Table.get_eq_some_iff hwf, Prod.forall]

end

/-! ### The search -/

section
variable {r : Rec} {tolerance : Nat} {d : List Nat}

theorem continuesPress_idle (hp : r.press = none) : continuesPress r tolerance d = false := by
  simp only [continuesPress, hp]

theorem continuesPress_indexed {p : Press} {e : IndexEntry} (hp : r.press = some p)
    (he : Table.get r.index p.slot = some e) :
    continuesPress r tolerance d = (bodyMatches tolerance d e || laterMatches tolerance d e) := by
  simp only [continuesPress, hp, he]

theorem search_continues (h : continuesPress r tolerance d = true) : search r tolerance d = .continuation := if_pos h

theorem search_eq_body_iff (h : continuesPress r tolerance d = false) {slot : Nat} :
    search r tolerance d = .body slot ↔ ∃ e, firstBody tolerance d r.index = some (slot, e) := by
  cases hb : firstBody tolerance d r.index <;> simp [search, h, hb, Prod.ext_iff]

theorem search_eq_unknown_iff (h : continuesPress r tolerance d = false) :
    search r tolerance d = .unknown ↔ firstBody tolerance d r.index = none := by
  cases hb : firstBody tolerance d r.index <;> simp [search, h, hb]

end

/-- Settles O36: a match element by element, and the search by whether the press is continued and which body comes first. -/
theorem searchFollowsOrder : Obligations.searchFollowsOrder := by
  refine ⟨matchesList_iff, fun pairs last => length_elementClasses, ?_⟩
  intro r tol d p e body
  refine ⟨fun hp he h => ?_, fun hcase hwf => ?_⟩
  · exact search_continues ((continuesPress_indexed hp he).trans (Bool.or_eq_true_iff.2 h))
  · have hcontinues : continuesPress r tol d = false := by
      rcases hcase with hp | ⟨hp, he, hbody, hlater⟩
      · exact continuesPress_idle hp
      · exact (continuesPress_indexed hp he).trans (Bool.or_eq_false_iff.2 ⟨Bool.eq_false_iff.2 hbody, hlater⟩)
    refine ⟨fun slot => ?_, (search_eq_unknown_iff hcontinues).trans (firstBody_eq_none_iff hwf)⟩
    simp only [search_eq_body_iff hcontinues, firstBody_eq_some_iff hwf, ← and_assoc, exists_and_right]
    exact Iff.rfl

end Sys2Proof.Machine
end

section
/-! The press machine (R87 to R92): what begins, continues and ends a press. -/

namespace Sys2Proof.Machine

section
variable {s : State} {p : Press} {d : List Nat} {slot : Nat}

/-- A route event does not reach the Recognizer (R147, R148). -/
@[simp] theorem routeEvent_rcg (slot : Nat) (kind : Trigger) (s : State) : (routeEvent slot kind s).rcg = s.rcg :=
  (routeEvent_changes (b := { ems := true, channels := true, routes := true, link := true })
    ⟨rfl, rfl, rfl, rfl⟩ slot kind s).rcg rfl

theorem notifyIf_eq (c : Bool) (n : Notification) (s : State) : notifyIf c n s = if c then notified n s else s := rfl

/-! ### The operations on a press -/

/-- A press on an indexed slot begins with the entry's NOTIFY flag (R87). -/
theorem beginPress_indexed {e : IndexEntry} (he : Table.get s.rcg.index slot = some e) :
    beginPress slot s =
      routeEvent slot .pressed
        (notifyIf e.notify (.pressed slot)
          (setPress (some { slot := slot, count := 0, notify := e.notify, due := releaseDue s }) s)) := by
  simp only [beginPress, he]

/-- The end of a press leaves of the Recognizer all but the press record (R90, R91). -/
theorem endPress_eq (p : Press) (why : ReleaseReason) (s : State) :
    endPress p why s =
      { routeEvent p.slot .released (if p.notify then notified (.released p.slot p.count why) s else s) with
        rcg := { s.rcg with press := none } } := by
  have hkept : (notifyIf p.notify (.released p.slot p.count why) s).rcg = s.rcg := by
    rw [notifyIf_eq]
    split <;> rfl
  rw [endPress, setPress, routeEvent_rcg, hkept]
  rfl

/-- A continuation that is not reported restarts the timer and counts (R89). -/
theorem continuePress_silent (h : reportsHeld s.opc.params.holdReportEvery p.count = false) :
    continuePress p s = setPress (some { p with count := min 65535 (p.count + 1), due := releaseDue s }) s := by
  simp [continuePress, h]

/-- A continuation that is reported does so with the risen count (R89). -/
theorem continuePress_reported (h : reportsHeld s.opc.params.holdReportEvery p.count = true) :
    continuePress p s =
      routeEvent p.slot .held
        (notifyIf p.notify (.held p.slot (min 65535 (p.count + 1)))
          (setPress (some { p with count := min 65535 (p.count + 1), due := releaseDue s }) s)) := by
  simp [continuePress, h]

theorem reportsHeld_eq_true {every count : Nat} (hcount : count < 65535) (hevery : every ≠ 0)
    (hmod : (count + 1) % every = 0) : reportsHeld every count = true := by
  simp [reportsHeld, hcount, hevery, hmod]

theorem reportsHeld_eq_false {every count : Nat} (h : count = 65535 ∨ every = 0 ∨ (count + 1) % every ≠ 0) :
    reportsHeld every count = false := by
  rcases h with h | h | h <;> simp [reportsHeld, h]

/-! ### What a frame does to a press -/

theorem actOnFrame_begins (hp : s.rcg.press = none) (h : search s.rcg s.opc.params.matchTolerance d = .body slot) :
    actOnFrame d s = beginPress slot s := by
  simp only [actOnFrame, h, hp]

theorem actOnFrame_continues (hp : s.rcg.press = some p)
    (h : search s.rcg s.opc.params.matchTolerance d = .continuation) : actOnFrame d s = continuePress p s := by
  simp only [actOnFrame, h, hp]

theorem actOnFrame_replaces (hp : s.rcg.press = some p) (h : search s.rcg s.opc.params.matchTolerance d = .body slot) :
    actOnFrame d s = beginPress slot (endPress p .otherCode s) := by
  simp only [actOnFrame, h, hp]

theorem actOnFrame_unknown (h : search s.rcg s.opc.params.matchTolerance d = .unknown) :
    actOnFrame d s = notifyIf (s.opc.params.reportUnknown == 1) (.unknownFrame d) s := by
  simp only [actOnFrame, h]

/-! ### The release timer -/

theorem releaseTimerEvent_due (hp : s.rcg.press = some p) (hnow : p.due ≤ s.now) :
    releaseTimerEvent s = endPress p .timeout s := by
  simp only [releaseTimerEvent, hp, hnow, if_true]

theorem releaseTimerEvent_early (hp : s.rcg.press = some p) (hnow : s.now < p.due) : releaseTimerEvent s = s := by
  simp only [releaseTimerEvent, hp, Nat.not_le.2 hnow, if_false]

theorem releaseTimerEvent_idle (hp : s.rcg.press = none) : releaseTimerEvent s = s := by
  simp only [releaseTimerEvent, hp]

/-- While a press is under way standby is not entered (R185). -/
theorem settleStandby_of_press (hp : s.rcg.press = some p) : settleStandby s = s := by
  have hbusy : pressIdle s = false := by simp [pressIdle, hp]
  exact settleStandby_of_settled fun hdue => by simp [readyForStandby, hbusy] at hdue

end

/-- Settles O37: each frame by what the search finds it to be, and the release timer by its moment. -/
theorem framesDrivePress : Obligations.framesDrivePress := by
  refine ⟨?_, ?_⟩
  · intro d slot p e s tol due begun counted
    refine ⟨fun hp hs he hn => ?_, fun hp hs he hn => ?_, fun hp hs hquiet => ?_, fun hp hs hlt hevery hmod => ?_,
      fun hp hs => ?_, fun hs hreport => ?_, fun hs hreport => ?_⟩
    · rw [actOnFrame_begins hp hs, beginPress_indexed he, notifyIf_eq, if_pos hn]
      rfl
    · rw [actOnFrame_begins hp hs, beginPress_indexed he, notifyIf_eq, if_neg (Bool.eq_false_iff.1 hn)]
      rfl
    · rw [actOnFrame_continues hp hs, continuePress_silent (reportsHeld_eq_false hquiet)]
      rfl
    · rw [actOnFrame_continues hp hs, continuePress_reported (reportsHeld_eq_true hlt hevery hmod),
        notifyIf_eq]
      simp only [counted, Nat.min_eq_right (Nat.succ_le_of_lt hlt)]
      rfl
    · rw [actOnFrame_replaces hp hs, endPress_eq]
    · rw [actOnFrame_unknown hs, notifyIf_eq, if_pos (by simp [hreport])]
    · rw [actOnFrame_unknown hs, notifyIf_eq, if_neg (by simp [hreport])]
  · intro dt p s u
    have hexec : exec (.releaseTimerExpiry dt) s = .next (settleStandby (releaseTimerEvent u)) := rfl
    rw [hexec]
    refine ⟨fun hp hnow => ?_, fun hp hnow => ?_, fun hp => ?_⟩
    · rw [releaseTimerEvent_due hp hnow, endPress_eq]
    · rw [releaseTimerEvent_early hp hnow, settleStandby_of_press hp]
    · rw [releaseTimerEvent_idle hp]

end Sys2Proof.Machine
end

section
/-! Frames by the operating state: wake frames in STANDBY, frames kept in WAKING (R96, R97, R186, R187). -/

namespace Sys2Proof.Machine

section
variable {s : State} {d : List Nat} {slot : Nat} {e : IndexEntry}

/-! ### The operating state -/

theorem recognizerTakesFrame_open (h : s.opc.state = .awake ∨ s.opc.state = .standbyPending) :
    recognizerTakesFrame d s = actOnFrame d s := by
  rcases h with h | h <;> simp only [recognizerTakesFrame, h]

theorem recognizerTakesFrame_standby (h : s.opc.state = .standby) : recognizerTakesFrame d s = standbyFrame d s := by
  simp only [recognizerTakesFrame, h]

theorem recognizerTakesFrame_waking (h : s.opc.state = .waking) :
    recognizerTakesFrame d s = { s with rcg := { s.rcg with kept := s.rcg.kept ++ [d] } } := by
  simp only [recognizerTakesFrame, h]
  rfl

theorem recognizerTakesFrame_mounting (h : s.opc.state = .mounting) : recognizerTakesFrame d s = s := by
  simp only [recognizerTakesFrame, h]

/-! ### A frame in STANDBY -/

/-- A frame of a code with WAKE is kept and begins the wake (R97, R186). -/
theorem standbyFrame_wakes (hb : firstBody s.opc.params.matchTolerance d s.rcg.index = some (slot, e)) (hw : e.wake = true) :
    standbyFrame d s =
      { s with
        rcg := { s.rcg with kept := [d] }
        opc := { s.opc with state := .waking, wake := some (.code slot), wakeDue := s.now + 80000 } } := by
  simp only [standbyFrame, hb, hw, if_true]
  rfl

theorem standbyFrame_without_wake (hb : firstBody s.opc.params.matchTolerance d s.rcg.index = some (slot, e))
    (hw : e.wake = false) : standbyFrame d s = s := by
  simp [standbyFrame, hb, hw]

theorem standbyFrame_unknown (hb : firstBody s.opc.params.matchTolerance d s.rcg.index = none) : standbyFrame d s = s := by
  simp only [standbyFrame, hb]

end

/-- Settles O38: a frame by the operating state, and in STANDBY by the lowest slot whose body it matches. -/
theorem standbyFramesFiltered : Obligations.standbyFramesFiltered := by
  intro d slot e s
  refine ⟨fun hs hb hw => ?_, fun hs hb hw => ?_, fun hs hb => ?_, recognizerTakesFrame_waking,
    recognizerTakesFrame_mounting, recognizerTakesFrame_open, fun hwf => firstBody_eq_some_iff hwf⟩
  · rw [recognizerTakesFrame_standby hs, standbyFrame_wakes hb hw]
  · rw [recognizerTakesFrame_standby hs, standbyFrame_without_wake hb hw]
  · rw [recognizerTakesFrame_standby hs, standbyFrame_unknown hb]

end Sys2Proof.Machine
end

section
/-! Masks and the four emitters: what each emitter has after a change, and the emitters of a mask in ascending order. -/

namespace Sys2Proof.Machine

section
variable {α β : Type}

@[simp] theorem PerEmitter.get_all (a : α) (e : Emitter) : (PerEmitter.all a).get e = a := by cases e <;> rfl

@[simp] theorem PerEmitter.get_mapAll (p : PerEmitter α) (f : Emitter → α → β) (e : Emitter) :
    (p.mapAll f).get e = f e (p.get e) := by cases e <;> rfl

theorem PerEmitter.get_set (p : PerEmitter α) (e k : Emitter) (a : α) :
    (p.set e a).get k = if k = e then a else p.get k := by cases e <;> cases k <;> rfl

end

@[simp] theorem updateChannel_get (s : State) (e k : Emitter) (f : Channel → Channel) :
    (updateChannel s e f).channels.get k = if k = e then f (s.channels.get k) else s.channels.get k := by
  rw [updateChannel, State.withChannels_channels, PerEmitter.get_set]
  by_cases h : k = e <;> simp [h]

theorem mem_maskEmitters {m : Mask} {e : Emitter} : e ∈ maskEmitters m ↔ hasEmitter m e = true := by
  simp [maskEmitters, mem_emitters]

theorem maskEmitters_ascending (m : Mask) : (maskEmitters m).Pairwise fun a b => emitterNumber a < emitterNumber b :=
  List.Pairwise.filter _ (by decide)

/-- The first emitter of a mask, E0 first, for which a search finds something. -/
theorem findSome?_maskEmitters_eq_some {β : Type} {f : Emitter → Option β} {m : Mask} {b : β} :
    (maskEmitters m).findSome? f = some b ↔
      ∃ e, hasEmitter m e = true ∧ f e = some b ∧
        ∀ e', emitterNumber e' < emitterNumber e → hasEmitter m e' = true → f e' = none := by
  have hasc := maskEmitters_ascending m
  constructor
  · intro h
    obtain ⟨before, e, rest, hl, he, hnone⟩ := List.findSome?_eq_some_iff.1 h
    rw [hl, List.pairwise_append, List.pairwise_cons] at hasc
    obtain ⟨-, ⟨hrest, -⟩, -⟩ := hasc
    refine ⟨e, mem_maskEmitters.1 (by simp [hl]), he, fun e' hlt hm => ?_⟩
    have hmem : e' ∈ before ++ e :: rest := hl ▸ mem_maskEmitters.2 hm
    rcases List.mem_append.1 hmem with hb | hb
    · exact hnone e' hb
    · rcases List.mem_cons.1 hb with rfl | hb
      · exact absurd hlt (lt_irrefl _)
      · exact absurd hlt (lt_asymm (hrest e' hb))
  · rintro ⟨e, hm, he, hnone⟩
    obtain ⟨before, rest, hl⟩ := List.append_of_mem (mem_maskEmitters.2 hm)
    rw [hl, List.pairwise_append] at hasc
    obtain ⟨-, -, hbefore⟩ := hasc
    refine List.findSome?_eq_some_iff.2 ⟨before, e, rest, hl, he, fun x hx => ?_⟩
    exact hnone x (hbefore x hx e (by simp)) (mem_maskEmitters.1 (by simp [hl, hx]))

theorem findSome?_maskEmitters_eq_none {β : Type} {f : Emitter → Option β} {m : Mask} :
    (maskEmitters m).findSome? f = none ↔ ∀ e, hasEmitter m e = true → f e = none := by
  simp [List.findSome?_eq_none_iff, mem_maskEmitters]

end Sys2Proof.Machine
end

section
/-! Job ids (R105): the next id is the first free one in the circle of the 255 ids, and one is always free. -/

namespace Sys2Proof.Machine

/-- The ids in the order in which they are tried after the last one allocated. -/
def idAt (last k : Nat) : Nat := (last + k) % 255 + 1

theorem idAfter_eq_idAt {n : Nat} (h : n ≤ 255) : idAfter n = idAt n 0 := by
  unfold idAfter idAt
  split <;> omega

theorem idAt_idAt (n k : Nat) : idAt (idAt n 0) k = idAt n (k + 1) := by
  unfold idAt
  omega

theorem idAt_bounds (n k : Nat) : 1 ≤ idAt n k ∧ idAt n k ≤ 255 := by
  unfold idAt
  omega

theorem idFree_iff {m : Ems} {id : Nat} :
    idFree m id = true ↔ (∀ j ∈ m.jobs, j.id ≠ id) ∧ ∀ r ∈ m.recent, r.id ≠ id := by
  simp [idFree]

theorem idFree_eq_false_iff {m : Ems} {id : Nat} :
    idFree m id = false ↔ (∃ j ∈ m.jobs, j.id = id) ∨ ∃ r ∈ m.recent, r.id = id := by
  rw [← Bool.not_eq_true, idFree_iff]
  simp only [not_and_or, not_forall, not_not, exists_prop]

/-- The search stops at the first free id, or at the last id its fuel lets it try. -/
theorem firstFreeId_spec (m : Ems) (fuel : Nat) {n : Nat} (hn : n ≤ 255) :
    ∃ k ≤ fuel, firstFreeId m fuel n = idAt n k ∧ (∀ i < k, idFree m (idAt n i) = false) ∧
      (k < fuel → idFree m (idAt n k) = true) := by
  induction fuel generalizing n with
  | zero => exact ⟨0, le_rfl, idAfter_eq_idAt hn, by simp, by simp⟩
  | succ fuel ih =>
    rw [firstFreeId, idAfter_eq_idAt hn]
    split
    · next hfree => exact ⟨0, by omega, rfl, by simp, fun _ => hfree⟩
    · next htaken =>
      obtain ⟨k, hk, heq, hbefore, hstop⟩ := ih (idAt_bounds n 0).2
      simp only [idAt_idAt] at heq hbefore hstop
      refine ⟨k + 1, by omega, heq, fun i hi => ?_, fun h => hstop (by omega)⟩
      cases i with
      | zero => simpa using htaken
      | succ i => exact hbefore i (by omega)

/-- Of the 255 ids the live jobs and the recently-ended list carry 40 at most, so one is free. -/
theorem exists_idFree {m : Ems} (hjobs : m.jobs.length ≤ 32) (hrecent : m.recent.length ≤ 8) (n : Nat) :
    ∃ k < 255, idFree m (idAt n k) = true := by
  by_contra hnone
  push Not at hnone
  let carried := m.jobs.map (·.id) ++ m.recent.map (·.id)
  have hsubset : (List.range 255).map (idAt n) ⊆ carried := by
    intro id hid
    obtain ⟨k, hk, rfl⟩ := List.mem_map.1 hid
    have htaken := idFree_eq_false_iff.1 (Bool.eq_false_iff.2 (hnone k (List.mem_range.1 hk)))
    simpa [carried] using htaken
  have hnodup : ((List.range 255).map (idAt n)).Nodup := by
    refine List.Nodup.map_on (fun a ha b hb hab => ?_) List.nodup_range
    rw [List.mem_range] at ha hb
    unfold idAt at hab
    omega
  have hlength := (hnodup.subperm hsubset).length_le
  simp [carried] at hlength
  omega

/-- The next id by its place after the last one allocated (R105). -/
theorem nextId_spec {m : Ems} (hjobs : m.jobs.length ≤ 32) (hrecent : m.recent.length ≤ 8) (hlast : m.lastId ≤ 255) :
    ∃ k < 255, nextId m = idAt m.lastId k ∧ idFree m (idAt m.lastId k) = true ∧
      ∀ i < k, idFree m (idAt m.lastId i) = false := by
  obtain ⟨k, hk, heq, hbefore, hstop⟩ := firstFreeId_spec m 254 hlast
  refine ⟨k, by omega, heq, ?_, hbefore⟩
  rcases Nat.lt_or_ge k 254 with hlt | hge
  · exact hstop hlt
  · obtain ⟨f, hf, hfree⟩ := exists_idFree hjobs hrecent m.lastId
    have hkf : k = f := by
      by_contra hne
      rw [hbefore f (by omega)] at hfree
      cases hfree
    rwa [hkf]

/-- The next id is free and one of the 255. -/
theorem nextId_fresh {m : Ems} (hjobs : m.jobs.length ≤ 32) (hrecent : m.recent.length ≤ 8) (hlast : m.lastId ≤ 255) :
    (1 ≤ nextId m ∧ nextId m ≤ 255) ∧ (∀ j ∈ m.jobs, j.id ≠ nextId m) ∧ ∀ r ∈ m.recent, r.id ≠ nextId m := by
  obtain ⟨k, -, heq, hfree, -⟩ := nextId_spec hjobs hrecent hlast
  rw [heq]
  exact ⟨idAt_bounds _ _, idFree_iff.1 hfree⟩

/-- Settles O41: the search ends at a free id, as one of the 255 is free, and no id before it was. -/
theorem nextIdIsFreshAndFirst : Obligations.nextIdIsFreshAndFirst := by
  intro m hjobs hrecent hlast after
  obtain ⟨⟨hmin, hmax⟩, hjob, hended⟩ := nextId_fresh hjobs hrecent hlast
  obtain ⟨k, hk, heq, -, hbefore⟩ := nextId_spec hjobs hrecent hlast
  exact ⟨hmin, hmax, hjob, hended, k, hk, heq, fun i hi => idFree_eq_false_iff.1 (hbefore i hi)⟩

end Sys2Proof.Machine
end

section
/-! The admission conditions (R99, R102, R106) in their order. -/

namespace Sys2Proof.Machine

/-- The status with which a channel's mode refuses an admission (Table 7-3). -/
def ChannelMode.refusal : ChannelMode → Option Status
  | .on => none
  | .off => some .emitterOff
  | .fault _ => some .emitterFault

theorem emitterRefusal_eq (s : State) (mask : Mask) :
    emitterRefusal s mask = (maskEmitters mask).findSome? fun e => (s.channels.get e).mode.refusal := rfl

theorem ChannelMode.refusal_eq_none {c : ChannelMode} : c.refusal = none ↔ c = .on := by
  cases c <;> simp [ChannelMode.refusal]

theorem ChannelMode.refusal_eq_emitterOff {c : ChannelMode} : c.refusal = some .emitterOff ↔ c = .off := by
  cases c <;> simp [ChannelMode.refusal]

theorem ChannelMode.refusal_eq_emitterFault {c : ChannelMode} : c.refusal = some .emitterFault ↔ ∃ k, c = .fault k := by
  cases c <;> simp [ChannelMode.refusal]

section
variable {s : State} {mask : Mask}

theorem emitterRefusal_eq_none_iff :
    emitterRefusal s mask = none ↔ ∀ e, hasEmitter mask e = true → (s.channels.get e).mode = .on := by
  simp only [emitterRefusal_eq, findSome?_maskEmitters_eq_none, ChannelMode.refusal_eq_none]

theorem emitterRefusal_eq_some_iff {st : Status} :
    emitterRefusal s mask = some st ↔
      ∃ e, hasEmitter mask e = true ∧ (s.channels.get e).mode.refusal = some st ∧
        ∀ e', emitterNumber e' < emitterNumber e → hasEmitter mask e' = true → (s.channels.get e').mode = .on := by
  simp only [emitterRefusal_eq, findSome?_maskEmitters_eq_some, ChannelMode.refusal_eq_none]

/-- An emitter refuses as OFF or in FAULT, and in no other way. -/
theorem emitterRefusal_cases {st : Status} (h : emitterRefusal s mask = some st) : st = .emitterOff ∨ st = .emitterFault := by
  obtain ⟨e, -, he, -⟩ := emitterRefusal_eq_some_iff.1 h
  cases hm : (s.channels.get e).mode <;> simp_all [ChannelMode.refusal]

/-- A queue of the mask is full. -/
def queueFull (s : State) (mask : Mask) : Prop := ∃ e, hasEmitter mask e = true ∧ 8 ≤ (s.ems.queues.get e).length

theorem queueFull_iff :
    ((maskEmitters mask).any fun e => decide (maxQueue ≤ (s.ems.queues.get e).length)) = true ↔
      queueFull s mask := by
  simp only [List.any_eq_true, mem_maskEmitters, decide_eq_true_eq]
  rfl

theorem admissionRefusal_of_emitter {st : Status} (h : emitterRefusal s mask = some st) :
    admissionRefusal s mask = some st := by
  simp only [admissionRefusal, h]

theorem admissionRefusal_tableFull (h : emitterRefusal s mask = none) (hjobs : 32 ≤ s.ems.jobs.length) :
    admissionRefusal s mask = some .tableFull := by
  simp only [admissionRefusal, h]
  exact if_pos hjobs

theorem admissionRefusal_queueFull (h : emitterRefusal s mask = none) (hjobs : s.ems.jobs.length < 32)
    (hqueue : queueFull s mask) : admissionRefusal s mask = some .queueFull := by
  simp only [admissionRefusal, h, queueFull_iff.2 hqueue, if_true]
  exact if_neg (not_le.2 hjobs)

theorem admissionRefusal_admits (h : emitterRefusal s mask = none) (hjobs : s.ems.jobs.length < 32)
    (hqueue : ¬queueFull s mask) : admissionRefusal s mask = none := by
  simp only [admissionRefusal, h, Bool.eq_false_iff.2 (mt queueFull_iff.1 hqueue)]
  exact if_neg (not_le.2 hjobs)

/-- Every state falls under exactly one of the four outcomes, which the lemmas above give. -/
theorem admissionRefusal_cases (s : State) (mask : Mask) :
    (∃ st, emitterRefusal s mask = some st ∧ admissionRefusal s mask = some st) ∨
    (emitterRefusal s mask = none ∧ 32 ≤ s.ems.jobs.length ∧ admissionRefusal s mask = some .tableFull) ∨
    (emitterRefusal s mask = none ∧ s.ems.jobs.length < 32 ∧ queueFull s mask ∧
      admissionRefusal s mask = some .queueFull) ∨
    (emitterRefusal s mask = none ∧ s.ems.jobs.length < 32 ∧ ¬queueFull s mask ∧ admissionRefusal s mask = none) := by
  cases h : emitterRefusal s mask with
  | some st => exact .inl ⟨st, rfl, admissionRefusal_of_emitter h⟩
  | none =>
    rcases Nat.lt_or_ge s.ems.jobs.length 32 with hlt | hge
    · by_cases hq : queueFull s mask
      · exact .inr (.inr (.inl ⟨rfl, hlt, hq, admissionRefusal_queueFull h hlt hq⟩))
      · exact .inr (.inr (.inr ⟨rfl, hlt, hq, admissionRefusal_admits h hlt hq⟩))
    · exact .inr (.inl ⟨rfl, hge, admissionRefusal_tableFull h hge⟩)

/-- A status with which an emitter refuses is that of the admission exactly when it is that of the emitters. -/
theorem admissionRefusal_eq_emitter {st : Status} (hst : st = .emitterOff ∨ st = .emitterFault) :
    admissionRefusal s mask = some st ↔ emitterRefusal s mask = some st := by
  rcases admissionRefusal_cases s mask with ⟨st', h, ha⟩ | ⟨h, -, ha⟩ | ⟨h, -, -, ha⟩ | ⟨h, -, -, ha⟩ <;>
    rcases hst with rfl | rfl <;> simp [h, ha]

theorem admissionRefusal_eq_tableFull :
    admissionRefusal s mask = some .tableFull ↔ emitterRefusal s mask = none ∧ 32 ≤ s.ems.jobs.length := by
  refine ⟨fun h => ?_, fun ⟨h, hjobs⟩ => admissionRefusal_tableFull h hjobs⟩
  rcases admissionRefusal_cases s mask with ⟨st, he, ha⟩ | ⟨he, hjobs, -⟩ | ⟨-, -, -, ha⟩ | ⟨-, -, -, ha⟩
  · rcases emitterRefusal_cases he with rfl | rfl <;> simp [ha] at h
  · exact ⟨he, hjobs⟩
  · simp [ha] at h
  · simp [ha] at h

theorem admissionRefusal_eq_queueFull :
    admissionRefusal s mask = some .queueFull ↔
      emitterRefusal s mask = none ∧ s.ems.jobs.length < 32 ∧ queueFull s mask := by
  refine ⟨fun h => ?_, fun ⟨h, hjobs, hq⟩ => admissionRefusal_queueFull h hjobs hq⟩
  rcases admissionRefusal_cases s mask with ⟨st, he, ha⟩ | ⟨-, -, ha⟩ | ⟨he, hjobs, hq, -⟩ | ⟨-, -, -, ha⟩
  · rcases emitterRefusal_cases he with rfl | rfl <;> simp [ha] at h
  · simp [ha] at h
  · exact ⟨he, hjobs, hq⟩
  · simp [ha] at h

theorem admissionRefusal_eq_none :
    admissionRefusal s mask = none ↔
      emitterRefusal s mask = none ∧ s.ems.jobs.length < 32 ∧ ¬queueFull s mask := by
  refine ⟨fun h => ?_, fun ⟨h, hjobs, hq⟩ => admissionRefusal_admits h hjobs hq⟩
  rcases admissionRefusal_cases s mask with ⟨st, -, ha⟩ | ⟨-, -, ha⟩ | ⟨-, -, -, ha⟩ | ⟨he, hjobs, hq, -⟩
  · simp [ha] at h
  · simp [ha] at h
  · simp [ha] at h
  · exact ⟨he, hjobs, hq⟩

end

/-- Settles O40: the emitters are asked first, the lowest first, then the table, then the queues. -/
theorem admissionConditions : Obligations.admissionConditions := by
  intro s mask modeOf allOn
  have hoff : admissionRefusal s mask = some .emitterOff ↔ _ :=
    (admissionRefusal_eq_emitter (.inl rfl)).trans emitterRefusal_eq_some_iff
  have hfault : admissionRefusal s mask = some .emitterFault ↔ _ :=
    (admissionRefusal_eq_emitter (.inr rfl)).trans emitterRefusal_eq_some_iff
  refine ⟨?_, ?_, ?_, ?_, ?_⟩
  · simpa only [ChannelMode.refusal_eq_emitterOff] using hoff
  · rw [hfault]
    simp only [ChannelMode.refusal_eq_emitterFault]
    exact ⟨fun ⟨e, hm, ⟨k, hk⟩, hbefore⟩ => ⟨e, k, hm, hk, hbefore⟩,
      fun ⟨e, k, hm, hk, hbefore⟩ => ⟨e, hm, ⟨k, hk⟩, hbefore⟩⟩
  · rw [admissionRefusal_eq_tableFull, emitterRefusal_eq_none_iff]
  · rw [admissionRefusal_eq_queueFull, emitterRefusal_eq_none_iff]
    rfl
  · rw [admissionRefusal_eq_none, emitterRefusal_eq_none_iff]
    simp only [queueFull, not_exists, not_and, not_le]
    rfl

end Sys2Proof.Machine
end

section
/-! The end of a job (R104, R113, R135, R151) and the entry to ENDING (R112, R134, Table 8-4). -/

namespace Sys2Proof.Machine

/-! ### The end of a job, block by block -/

/-- The scheduler after the end of a job: it is in the job table and the queues no more, and its entry is in the
recently-ended list (R104, R113). -/
def Ems.without (m : Ems) (x : Ended) : Ems :=
  { m with
    jobs := m.jobs.filter fun j => j.id != x.id
    queues := m.queues.mapAll fun _ q => q.filter fun k => k != x.id
    recent := pushRecent m.recent x }

section
variable {s : State} {id : Nat} {j : Job} {why : JobOutcome}

theorem endJob_eq (h : findJob s id = some j) :
    endJob id why s =
      tellRoutes j (notifyIf j.report (.jobEnd id why j.framesSent j.origin)
        ((leaveChannels id s).withEms (s.ems.without { id := id, outcome := why, framesSent := j.framesSent }))) := by
  simp only [endJob, h]
  rfl

theorem endJob_dead (h : findJob s id = none) : endJob id why s = s := by
  simp only [endJob, h]

theorem endJob_ems (h : findJob s id = some j) :
    (endJob id why s).ems = s.ems.without { id := id, outcome := why, framesSent := j.framesSent } := by
  rw [endJob_eq h, (tellRoutes_changes (b := { routes := true }) rfl _ _).ems rfl,
    (notifyIf_changes (b := { link := true }) rfl _ _ _).ems rfl, State.withEms_ems]

theorem endJob_channels_get (h : findJob s id = some j) (e : Emitter) :
    (endJob id why s).channels.get e =
      if headOf s e = some id then { s.channels.get e with stopped := false } else s.channels.get e := by
  rw [endJob_eq h, (tellRoutes_changes (b := { routes := true }) rfl _ _).channels rfl,
    (notifyIf_changes (b := { link := true }) rfl _ _ _).channels rfl, State.withEms_channels, leaveChannels_get]

theorem endJob_link (h : findJob s id = some j) :
    (endJob id why s).link =
      if j.report then s.link.notify (.jobEnd id why j.framesSent j.origin) else s.link := by
  rw [endJob_eq h, (tellRoutes_changes (b := { routes := true }) rfl _ _).link rfl, notifyIf]
  split <;> rfl

theorem endJob_routes_of_host {tag : Byte} (h : findJob s id = some j) (ho : j.origin = .host tag) :
    (endJob id why s).routes = s.routes := by
  rw [endJob_eq h]
  simp only [tellRoutes, ho]
  exact (notifyIf_changes (b := { link := true }) rfl _ _ _).routes rfl

theorem endJob_routes_of_route {i : Nat} (h : findJob s id = some j) (ho : j.origin = .route i) :
    (endJob id why s).routes = clearLinks s.routes id := by
  rw [endJob_eq h]
  simp only [tellRoutes, ho, State.withRoutes_routes, id_of_findJob h]
  rw [(notifyIf_changes (b := { link := true }) rfl _ _ _).routes rfl]
  rfl

theorem endJob_queues_get (h : findJob s id = some j) (e : Emitter) :
    (endJob id why s).ems.queues.get e = (s.ems.queues.get e).filter fun k => k != id := by
  rw [endJob_ems h]
  exact PerEmitter.get_mapAll ..

theorem endJob_jobs (h : findJob s id = some j) :
    (endJob id why s).ems.jobs = s.ems.jobs.filter fun k => k.id != id := by rw [endJob_ems h]; rfl

theorem findJob_endJob_same (h : findJob s id = some j) : findJob (endJob id why s) id = none := by
  rw [findJob, endJob_jobs h]
  simp

end

/-- The recently-ended list keeps the last 8 (R104). -/
theorem pushRecent_eq (recent : List Ended) (x : Ended) :
    pushRecent recent x = (recent ++ [x]).drop (recent.length + 1 - 8) := by
  simp [pushRecent, maxRecent]

/-- An entry of the table without the links to a job is one of the table before, its link kept unless it named the job. -/
theorem mem_clearLinks {routes : List (Nat × Route)} {id i : Nat} {r : Route} (h : (i, r) ∈ clearLinks routes id) :
    r.link ≠ some id ∧ ∃ q, (i, q) ∈ routes ∧ (r.link = none ∨ r.link = q.link) := by
  obtain ⟨⟨i', q⟩, hq, heq⟩ := List.mem_map.1 h
  obtain ⟨rfl, rfl⟩ := Prod.mk.inj heq
  split
  · exact ⟨by simp, q, hq, .inl rfl⟩
  · next hne => exact ⟨hne, q, hq, .inr rfl⟩

/-! ### The entry to ENDING -/

section
variable {s : State} {id : Nat} {j : Job} {p : Play} {why : JobOutcome}

/-- An entry to ENDING ends the job at once where no channel takes part any more or its channels stop at once (R112). -/
theorem enterEnding_eq (h : findJob s id = some j) (hp : j.play = some p) :
    enterEnding id why s =
      if participants s j = [] ∨ stopsAtOnce why p = true then
        endJob id why (updateJob s id fun k => { k with state := .ending why })
      else updateJob s id fun k => { k with state := .ending why } := by
  simp only [enterEnding, h, hp, Bool.or_eq_true, List.isEmpty_iff]
  rfl

theorem stopsAtOnce_frame {run : FrameRun} (h : p.phase = .frame run) : stopsAtOnce why p = false := by
  simp only [stopsAtOnce, h]

theorem stopsAtOnce_pause {moment : Nat} (h : p.phase = .pause moment ∨ p.phase = .stepGap moment) :
    stopsAtOnce why p = true := by
  rcases h with h | h <;> simp only [stopsAtOnce, h]

theorem stopsAtOnce_gap {moment : Nat} (h : p.phase = .gap moment) :
    stopsAtOnce why p = true ↔ why = .cancelled ∨ p.minFrames ≤ p.stepFrames := by
  simp [stopsAtOnce, h]

theorem Play.minFrames_of_snapshot {r : Record} (h : p.snapshot = some r) : p.minFrames = r.minFrames := by
  simp only [Play.minFrames, h]

end

/-- Settles O44: the end of a job block by block, and the entry to ENDING by the phase of the job's time line. -/
theorem jobsStopAndEnd : Obligations.jobsStopAndEnd := by
  refine ⟨?_, ?_⟩
  · rintro id why j s _ h rfl
    have hkept := endJob_changes (b := { ems := true, channels := true, routes := true, link := true })
      ⟨rfl, rfl, rfl, rfl⟩ id why s
    refine ⟨findJob_endJob_same h, fun k hk => findJob_endJob_of_ne why s hk, endJob_queues_get h, ?_, endJob_link h,
      fun i ho q hq => ?_, fun tag ho => endJob_routes_of_host h ho, endJob_channels_get h, hkept.lib rfl,
      hkept.cap rfl, hkept.lrn rfl, hkept.rcg rfl, hkept.opc rfl⟩
    · rw [endJob_ems h]
      exact pushRecent_eq ..
    · rw [endJob_routes_of_route h ho] at hq
      exact (mem_clearLinks hq).1
  · intro id why j p r run moment s v h hp
    rw [enterEnding_eq h hp]
    refine ⟨fun hnone => if_pos (.inl hnone), fun hpart hph => ?_, fun hph => if_pos (.inr (stopsAtOnce_pause hph)),
      fun hph hr hstop => ?_, fun hpart hph hr hwhy hmin => ?_, fun hr => ?_⟩
    · exact if_neg (by simp [hpart, stopsAtOnce_frame hph])
    · rw [← Play.minFrames_of_snapshot hr] at hstop
      exact if_pos (.inr ((stopsAtOnce_gap hph).2 hstop))
    · rw [← Play.minFrames_of_snapshot hr] at hmin
      refine if_neg ?_
      rw [stopsAtOnce_gap hph]
      exact fun hstop => hstop.elim hpart fun hstop => hstop.elim hwhy (not_le.2 hmin)
    · rw [stopsAtFrameEnd_iff, Play.minFrames_of_snapshot hr]

end Sys2Proof.Machine
end

section
/-! Activation (R109, R111, R126) and the examination of the queues (R110). -/

namespace Sys2Proof.Machine

/-! ### The latest ready moment of a mask (R126) -/

theorem foldl_laterOf_eq (ready : Emitter → Option Nat) (es : List Emitter) (t : Nat) :
    es.foldl (fun t e => laterOf t (ready e)) t = t ∨
      ∃ e ∈ es, ready e = some (es.foldl (fun t e => laterOf t (ready e)) t) := by
  induction es generalizing t with
  | nil => exact .inl rfl
  | cons e es ih =>
    rw [List.foldl_cons]
    rcases ih (laterOf t (ready e)) with h | ⟨e', he', h⟩
    · rw [h]
      cases hr : ready e with
      | none => exact .inl rfl
      | some w =>
        rcases max_choice t w with hmax | hmax
        · exact .inl hmax
        · exact .inr ⟨e, by simp, by rw [hr, laterOf, hmax]⟩
    · exact .inr ⟨e', by simp [he'], h⟩

theorem foldl_laterOf_bounds (ready : Emitter → Option Nat) (es : List Emitter) (t : Nat) :
    t ≤ es.foldl (fun t e => laterOf t (ready e)) t ∧
      ∀ e ∈ es, ∀ w, ready e = some w → w ≤ es.foldl (fun t e => laterOf t (ready e)) t := by
  have hlater (t : Nat) (o : Option Nat) : t ≤ laterOf t o ∧ ∀ w, o = some w → w ≤ laterOf t o := by
    cases o <;> simp [laterOf]
  induction es generalizing t with
  | nil => simp
  | cons e es ih =>
    rw [List.foldl_cons]
    obtain ⟨hle, hall⟩ := ih (laterOf t (ready e))
    obtain ⟨hmoment, hready⟩ := hlater t (ready e)
    refine ⟨hmoment.trans hle, fun e' he' w hw => ?_⟩
    rcases List.mem_cons.1 he' with rfl | he'
    · exact (hready w hw).trans hle
    · exact hall e' he' w hw

section
variable (s : State) (m : Mask) (t : Nat)

theorem readyFrom_eq :
    readyFrom s m t = t ∨ ∃ e, hasEmitter m e = true ∧ (s.channels.get e).ready = some (readyFrom s m t) := by
  rcases foldl_laterOf_eq (fun e => (s.channels.get e).ready) (maskEmitters m) t with h | ⟨e, he, h⟩
  · exact .inl h
  · exact .inr ⟨e, mem_maskEmitters.1 he, h⟩

theorem readyFrom_of_none (h : ∀ e, hasEmitter m e = true → (s.channels.get e).ready = none) : readyFrom s m t = t := by
  rcases readyFrom_eq s m t with heq | ⟨e, he, hready⟩
  · exact heq
  · simp [h e he] at hready

theorem le_readyFrom : t ≤ readyFrom s m t := (foldl_laterOf_bounds _ _ t).1

theorem ready_le_readyFrom {e : Emitter} (he : hasEmitter m e = true) {w : Nat}
    (hw : (s.channels.get e).ready = some w) : w ≤ readyFrom s m t :=
  (foldl_laterOf_bounds (fun e => (s.channels.get e).ready) (maskEmitters m) t).2 e (mem_maskEmitters.2 he) w hw

end

/-! ### The steps of a SEQUENCE (Table 8-3) -/

section
variable {s : State} {id : Nat} {j : Job} {r : Record} {steps : List Machine.Step} {k moment slot n d : Nat} {afterSend : Bool}

theorem startStep_pause (h : findJob s id = some j) (hk : j.kind = .sequence steps) (hstep : steps[k - 1]? = some (.pause d)) :
    startStep id k moment afterSend s =
      updateJob s id fun j =>
        { j with step := k, play := some { snapshot := none, stepFrames := 0, phase := .pause (moment + ms d) } } := by
  simp only [startStep, h, hk, hstep]

theorem startStep_send (h : findJob s id = some j) (hk : j.kind = .sequence steps)
    (hstep : steps[k - 1]? = some (.send slot n)) (hr : committedRecord s slot = some r) :
    startStep id k moment false s =
      updateJob s id fun x =>
        { x with
          step := k
          play := some { snapshot := some r, stepFrames := 0, phase := .gap (readyFrom s j.mask moment) } } := by
  simp only [startStep, h, hk, hstep, hr]
  rfl

theorem startStep_empty (h : findJob s id = some j) (hk : j.kind = .sequence steps)
    (hstep : steps[k - 1]? = some (.send slot n)) (hr : committedRecord s slot = none) :
    startStep id k moment afterSend s = endJob id .failedNoCode (updateJob s id fun j => { j with step := k }) := by
  simp only [startStep, h, hk, hstep, hr]

/-! ### Activation by the kind of the job -/

theorem activate_send (h : findJob s id = some j) (hk : j.kind = .send slot n) :
    activate id s = activateSlot id slot none s := by
  simp only [activate, h, hk]

theorem activate_hold (h : findJob s id = some j) (hk : j.kind = .hold slot n) :
    activate id s = activateSlot id slot (some n) s := by
  simp only [activate, h, hk]

theorem activate_sequence (h : findJob s id = some j) (hk : j.kind = .sequence steps) :
    activate id s = startStep id 1 s.now false (updateJob s id fun j => { j with state := .active }) := by
  simp only [activate, h, hk]

theorem activateSlot_empty {limit : Option Nat} (hr : committedRecord s slot = none) :
    activateSlot id slot limit s = endJob id .failedNoCode s := by
  simp only [activateSlot, hr]

theorem activateSlot_record {limit : Option Nat} (hr : committedRecord s slot = some r) :
    activateSlot id slot limit s =
      updateJob s id fun j =>
        { j with
          state := if j.early then .ending .released else .active
          deadline := limit.map fun l => s.now + sec l
          play := some { snapshot := some r, stepFrames := 0, phase := .gap (readyFrom s j.mask s.now) } } := by
  simp only [activateSlot, hr]

end

/-- Settles O42: the activation by the kind of the job and by what its slot holds. -/
theorem activationTakesSnapshot : Obligations.activationTakesSnapshot := by
  intro id slot n d j steps r s changed start waiting h
  have hactive : findJob (updateJob s id fun j => { j with state := .active }) id = some { j with state := .active } :=
    findJob_updateJob_same (by intro _; rfl) h
  refine ⟨fun hk hr => ?_, fun hk hr hearly => ?_, fun hk hr => ?_, fun hk => ?_, fun hk hr => ?_, fun hk hr => ?_,
    readyFrom_eq s, fun m t => readyFrom_of_none s m t,
    fun m t e he => ⟨fun w hw => ready_le_readyFrom s m t he hw, le_readyFrom s m t⟩⟩
  · rcases hk with hk | hk
    · rw [activate_send h hk, activateSlot_empty hr]
    · rw [activate_hold h hk, activateSlot_empty hr]
  · refine ⟨_, (activate_send h hk).trans (activateSlot_record hr), ?_, rfl, rfl, rfl⟩
    rw [findJob_updateJob_same (by intro _; rfl) h, hearly]
    rfl
  · refine ⟨_, (activate_hold h hk).trans (activateSlot_record hr), ?_, rfl, rfl, rfl⟩
    rw [findJob_updateJob_same (by intro _; rfl) h]
    rfl
  · rw [activate_sequence h hk, startStep_pause hactive hk rfl, updateJob_updateJob (by intro _; rfl)]
    rfl
  · rw [activate_sequence h hk, startStep_send hactive hk rfl hr, updateJob_updateJob (by intro _; rfl)]
    rfl
  · rw [activate_sequence h hk, startStep_empty hactive hk rfl hr, updateJob_updateJob (by intro _; rfl)]
    rfl

/-! ### The queue heads that can activate -/

section
variable {s : State} {id : Nat}

theorem canActivate_iff :
    canActivate s id = true ↔
      ∃ j, findJob s id = some j ∧ j.state = .queued ∧ ∀ e, hasEmitter j.mask e = true → headOf s e = some id := by
  unfold canActivate
  cases h : findJob s id with
  | none => simp
  | some j => simp [mem_maskEmitters]

theorem firstActivatable_eq_none_iff :
    firstActivatable s = none ↔ ∀ e k, headOf s e = some k → canActivate s k = false := by
  unfold firstActivatable
  rw [List.findSome?_eq_none_iff]
  refine ⟨fun h e k hk => ?_, fun h e _ => ?_⟩
  · simpa [hk] using h e (mem_emitters e)
  · cases hk : headOf s e with
    | none => rfl
    | some k => simp [h e k hk]

/-- The head that an examination activates is QUEUED and heads every queue of its mask (R109). -/
theorem firstActivatable_eq_some (h : firstActivatable s = some id) :
    ∃ j e, findJob s id = some j ∧ j.state = .queued ∧ headOf s e = some id ∧
      ∀ e', hasEmitter j.mask e' = true → headOf s e' = some id := by
  obtain ⟨e, -, he⟩ := List.exists_of_findSome?_eq_some h
  cases hh : headOf s e with
  | none => simp [hh] at he
  | some k =>
    simp only [hh, Option.ite_none_right_eq_some, Option.some.injEq] at he
    obtain ⟨hcan, rfl⟩ := he
    obtain ⟨j, hj, hq, hheads⟩ := canActivate_iff.1 hcan
    exact ⟨j, e, hj, hq, hh, hheads⟩

end

/-! ### Every activation takes a job out of QUEUED -/

/-- The number of QUEUED jobs. -/
def queuedCount (s : State) : Nat := s.ems.jobs.countP fun j => decide (j.state = .queued)

/-- The number of QUEUED jobs with another id. -/
def queuedBeside (id : Nat) (s : State) : Nat := s.ems.jobs.countP fun j => decide (j.state = .queued) && j.id != id

/-- No job with an id is QUEUED. -/
def LeftQueued (id : Nat) (s : State) : Prop := ∀ j ∈ s.ems.jobs, j.id = id → j.state ≠ .queued

section
variable {s : State} {id : Nat}

theorem queuedCount_of_leftQueued (h : LeftQueued id s) : queuedCount s = queuedBeside id s := by
  refine List.countP_congr fun j hj => ?_
  have := h j hj
  by_cases hid : j.id = id <;> simp [hid, this]

theorem queuedBeside_lt {j : Job} (h : findJob s id = some j) (hq : j.state = .queued) :
    queuedBeside id s < queuedCount s := by
  have hj : j ∈ s.ems.jobs := List.mem_of_find?_eq_some h
  have hsplit := List.countP_eq_countP_filter_add s.ems.jobs (fun j => decide (j.state = .queued)) fun j => j.id != id
  rw [List.countP_filter, List.countP_filter] at hsplit
  have hpos : 0 < s.ems.jobs.countP fun j => decide (j.state = .queued) && !(j.id != id) :=
    List.countP_pos_iff.2 ⟨j, hj, by simp [hq, id_of_findJob h]⟩
  unfold queuedBeside queuedCount
  omega

theorem queuedBeside_updateJob {f : Job → Job} (hf : ∀ j, (f j).id = j.id) :
    queuedBeside id (updateJob s id f) = queuedBeside id s := by
  unfold queuedBeside updateJob updateJobIn
  rw [State.withEms_ems, List.countP_map]
  refine List.countP_congr fun j _ => ?_
  by_cases hid : j.id = id <;> simp [hid, hf]

theorem queuedBeside_endJob (why : JobOutcome) : queuedBeside id (endJob id why s) = queuedBeside id s := by
  cases h : findJob s id with
  | none => rw [endJob_dead h]
  | some j =>
    unfold queuedBeside
    rw [endJob_jobs h, List.countP_filter]
    simp

theorem leftQueued_updateJob {f : Job → Job}
    (hstate : ∀ j ∈ s.ems.jobs, j.id = id → (f j).state ≠ .queued) : LeftQueued id (updateJob s id f) := by
  intro j hj hid
  obtain ⟨x, hx, rfl⟩ := List.mem_map.1 hj
  split at hid
  · next hxid =>
    rw [if_pos hxid]
    exact hstate x hx hxid
  · next hxid => exact absurd hid hxid

theorem leftQueued_endJob {j : Job} (why : JobOutcome) (h : findJob s id = some j) : LeftQueued id (endJob id why s) := by
  intro x hx hid
  rw [endJob_jobs h] at hx
  simp [hid] at hx

/-- A step of a SEQUENCE that starts leaves its job out of QUEUED, and every other job as it was. -/
theorem startStep_leftQueued {j : Job} (k moment : Nat) (afterSend : Bool) (h : findJob s id = some j)
    (hleft : LeftQueued id s) :
    LeftQueued id (startStep id k moment afterSend s) ∧
      queuedBeside id (startStep id k moment afterSend s) = queuedBeside id s := by
  have hsame {f : Job → Job} (hf : ∀ j, (f j).id = j.id) (hstate : ∀ j, (f j).state = j.state) :
      LeftQueued id (updateJob s id f) ∧ queuedBeside id (updateJob s id f) = queuedBeside id s :=
    ⟨leftQueued_updateJob fun j hj hid => hstate j ▸ hleft j hj hid, queuedBeside_updateJob hf⟩
  simp only [startStep, h]
  split
  · split
    · exact ⟨leftQueued_endJob _ h, queuedBeside_endJob _⟩
    · exact hsame (by intro _; rfl) (by intro _; rfl)
    · split
      · refine ⟨leftQueued_endJob _ (findJob_updateJob_same (by intro _; rfl) h), ?_⟩
        rw [queuedBeside_endJob, queuedBeside_updateJob (by intro _; rfl)]
      · exact hsame (by intro _; rfl) (by intro _; rfl)
  · exact ⟨hleft, rfl⟩

theorem activateSlot_leftQueued {j : Job} (slot : Nat) (limit : Option Nat) (h : findJob s id = some j) :
    LeftQueued id (activateSlot id slot limit s) ∧ queuedBeside id (activateSlot id slot limit s) = queuedBeside id s := by
  cases hr : committedRecord s slot with
  | none =>
    rw [activateSlot_empty hr]
    exact ⟨leftQueued_endJob _ h, queuedBeside_endJob _⟩
  | some r =>
    rw [activateSlot_record hr]
    refine ⟨leftQueued_updateJob fun j _ _ => ?_, queuedBeside_updateJob (by intro _; rfl)⟩
    dsimp only
    split <;> simp

theorem activate_leftQueued {j : Job} (h : findJob s id = some j) :
    LeftQueued id (activate id s) ∧ queuedBeside id (activate id s) = queuedBeside id s := by
  cases hk : j.kind with
  | send slot n => rw [activate_send h hk]; exact activateSlot_leftQueued slot none h
  | hold slot n => rw [activate_hold h hk]; exact activateSlot_leftQueued slot (some n) h
  | sequence steps =>
    rw [activate_sequence h hk]
    obtain ⟨hleft, hbeside⟩ := startStep_leftQueued 1 s.now false (findJob_updateJob_same (by intro _; rfl) h)
      (leftQueued_updateJob (f := fun j => { j with state := .active }) (by simp))
    exact ⟨hleft, hbeside.trans (queuedBeside_updateJob (by intro _; rfl))⟩

theorem queuedCount_activate_lt (h : firstActivatable s = some id) : queuedCount (activate id s) < queuedCount s := by
  obtain ⟨j, -, hj, hq, -⟩ := firstActivatable_eq_some h
  obtain ⟨hleft, hbeside⟩ := activate_leftQueued hj
  rw [queuedCount_of_leftQueued hleft, hbeside]
  exact queuedBeside_lt hj hq

/-! ### The examination has fuel for every QUEUED job -/

theorem examineFor_of_none (h : firstActivatable s = none) (n : Nat) : examineFor n s = s := by
  cases n <;> simp only [examineFor, h]

theorem examineFor_succ_of_some (h : firstActivatable s = some id) (n : Nat) :
    examineFor (n + 1) s = examineFor n (activate id s) := by
  simp only [examineFor, h]

/-- With fuel for every QUEUED job, more fuel changes nothing. -/
theorem examineFor_congr {m n : Nat} (hm : queuedCount s ≤ m) (hn : queuedCount s ≤ n) :
    examineFor m s = examineFor n s := by
  induction m generalizing n s with
  | zero =>
    cases h : firstActivatable s with
    | none => rw [examineFor_of_none h, examineFor_of_none h]
    | some id => have := queuedCount_activate_lt h; omega
  | succ m ih =>
    cases h : firstActivatable s with
    | none => rw [examineFor_of_none h, examineFor_of_none h]
    | some id =>
      have hlt := queuedCount_activate_lt h
      obtain ⟨n, rfl⟩ := Nat.exists_eq_add_one.2 (show 0 < n by omega)
      rw [examineFor_succ_of_some h, examineFor_succ_of_some h]
      exact ih (by omega) (by omega)

theorem firstActivatable_examineFor {n : Nat} (hn : queuedCount s ≤ n) : firstActivatable (examineFor n s) = none := by
  induction n generalizing s with
  | zero =>
    cases h : firstActivatable s with
    | none => rwa [examineFor_of_none h]
    | some id => have := queuedCount_activate_lt h; omega
  | succ n ih =>
    cases h : firstActivatable s with
    | none => rwa [examineFor_of_none h]
    | some id =>
      have hlt := queuedCount_activate_lt h
      rw [examineFor_succ_of_some h]
      exact ih (by omega)

theorem queuedCount_le : queuedCount s ≤ s.ems.jobs.length := List.countP_le_length

theorem examine_of_none (h : firstActivatable s = none) : examine s = s := examineFor_of_none h _

theorem examine_of_some (h : firstActivatable s = some id) : examine s = examine (activate id s) := by
  have hlt := queuedCount_activate_lt h
  have hle := queuedCount_le (s := s)
  calc examine s = examineFor (s.ems.jobs.length + 1) s := examineFor_congr hle (by omega)
    _ = examineFor s.ems.jobs.length (activate id s) := examineFor_succ_of_some h _
    _ = examine (activate id s) := examineFor_congr (by omega) queuedCount_le

end

/-- Settles O43: the examination goes on with each head that can activate, and its fuel lasts for every QUEUED job. -/
theorem examinationIsComplete : Obligations.examinationIsComplete := by
  intro s
  refine ⟨firstActivatable_examineFor queuedCount_le, examine_of_none, fun id => examine_of_some,
    fun id j hnone hj hq hmask => ?_, fun id => firstActivatable_eq_some⟩
  by_contra hall
  push Not at hall
  obtain ⟨e, he⟩ := List.exists_mem_of_ne_nil _ hmask
  have hcan : canActivate s id = true := canActivate_iff.2 ⟨j, hj, hq, hall⟩
  rw [firstActivatable_eq_none_iff.1 hnone e id (hall e (mem_maskEmitters.1 he))] at hcan
  cases hcan

end Sys2Proof.Machine
end

section
/-! SEND, HOLD and SEQUENCE (R100, R106, R107, R174). -/

namespace Sys2Proof.Machine

/-- The blocks that the scheduler's part in a request reaches. -/
def Blocks.scheduler : Blocks := { link := true, routes := true, ems := true, channels := true }

theorem Blocks.scheduler_emission : Blocks.scheduler.emission := ⟨rfl, rfl, rfl, rfl⟩

/-- A request found the part AWAKE, and its part in the scheduler leaves it so: standby is not entered in its step. -/
theorem settleStandby_of_scheduler {tag : Byte} {st : Status} {more : List Byte} {u t : State}
    (h : Changes Blocks.scheduler (answered tag st more u) t) : settleStandby t = t :=
  settleStandby_of_ne (by rw [h.opc rfl]; simp [answered, found])

/-- An examination that ends the scheduler's part in a request ends the step. -/
theorem settleStandby_examine_answered {tag : Byte} {st : Status} {more : List Byte} {u t : State}
    (h : Changes Blocks.scheduler (answered tag st more u) t) : settleStandby (examine t) = examine t :=
  settleStandby_of_scheduler (h.trans (examine_changes Blocks.scheduler_emission t))

/-! ### The argument checks -/

theorem maskField_of_ok {b : Byte} (hmin : 1 ≤ b.toNat) (hmax : b.toNat ≤ 15) : maskField b = some (b.setWidth 4) :=
  if_pos ⟨hmin, hmax⟩

theorem maskField_of_bad {b : Byte} (h : ¬(1 ≤ b.toNat ∧ b.toNat ≤ 15)) : maskField b = none := if_neg h

theorem toNat_ne_zero {x : Byte} (h : x ≠ 0) : 1 ≤ x.toNat := by bv_omega

section
variable {tag mask slot x : Byte} {s : State}

theorem ownSend_badArgument (h : ¬(1 ≤ mask.toNat ∧ mask.toNat ≤ 15) ∨ 128 ≤ slot.toNat ∨ x = 0) :
    ownSend tag [mask, slot, x] s = replyStatus tag .badArgument s := by
  unfold ownSend
  by_cases hm : 1 ≤ mask.toNat ∧ mask.toNat ≤ 15
  · have hbad : ¬(slot.toNat < slotCount ∧ 1 ≤ x.toNat) := by
      rintro ⟨hslot, hx⟩
      rcases h.resolve_left (not_not.2 hm) with h | rfl
      · exact absurd hslot (not_lt.2 h)
      · exact absurd hx (by decide)
    simp only [byteAt, List.getD_cons_zero, List.getD_cons_succ, maskField_of_ok hm.1 hm.2]
    exact if_neg hbad
  · simp only [byteAt, List.getD_cons_zero, maskField_of_bad hm]

theorem ownSend_admits (hmin : 1 ≤ mask.toNat) (hmax : mask.toNat ≤ 15) (hslot : slot.toNat < 128) (hx : x ≠ 0) :
    ownSend tag [mask, slot, x] s = admitHostJob tag (mask.setWidth 4) (.send slot.toNat x.toNat) s := by
  simp only [ownSend, byteAt, List.getD_cons_zero, List.getD_cons_succ, maskField_of_ok hmin hmax]
  exact if_pos ⟨hslot, toNat_ne_zero hx⟩

theorem ownHold_badArgument (h : ¬(1 ≤ mask.toNat ∧ mask.toNat ≤ 15) ∨ 128 ≤ slot.toNat ∨ 121 ≤ x.toNat) :
    ownHold tag [mask, slot, x] s = replyStatus tag .badArgument s := by
  unfold ownHold
  by_cases hm : 1 ≤ mask.toNat ∧ mask.toNat ≤ 15
  · have hbad : ¬(slot.toNat < slotCount ∧ x.toNat ≤ 120) := by
      rintro ⟨hslot, hx⟩
      rcases h.resolve_left (not_not.2 hm) with h | h
      · exact absurd hslot (not_lt.2 h)
      · exact absurd hx (not_le.2 h)
    simp only [byteAt, List.getD_cons_zero, List.getD_cons_succ, maskField_of_ok hm.1 hm.2]
    exact if_neg hbad
  · simp only [byteAt, List.getD_cons_zero, maskField_of_bad hm]

theorem resolveLimit_eq (x : Byte) :
    resolveLimit s x.toNat = if x = 0 then s.opc.params.holdLimit else x.toNat := by
  unfold resolveLimit
  by_cases hx : x = 0
  · simp [hx]
  · rw [if_neg hx, if_neg (Nat.one_le_iff_ne_zero.1 (toNat_ne_zero hx))]

theorem ownHold_admits (hmin : 1 ≤ mask.toNat) (hmax : mask.toNat ≤ 15) (hslot : slot.toNat < 128) (hx : x.toNat ≤ 120) :
    ownHold tag [mask, slot, x] s =
      admitHostJob tag (mask.setWidth 4)
        (.hold slot.toNat (if x = 0 then s.opc.params.holdLimit else x.toNat)) s := by
  simp only [ownHold, byteAt, List.getD_cons_zero, List.getD_cons_succ, maskField_of_ok hmin hmax, resolveLimit_eq]
  exact if_pos ⟨hslot, hx⟩

variable {p : List Byte}

theorem ownSequence_badLength (h : p.length % 3 ≠ 0) :
    ownSequence tag (mask :: p) s = replyStatus tag .badLength s := by
  have hagrees : payloadAgrees .sequence (mask :: p) = false := by
    simp only [payloadAgrees, List.length_cons, beq_eq_false_iff_ne]
    omega
  simp [ownSequence, hagrees]

theorem payloadAgrees_sequence (h : p.length % 3 = 0) : payloadAgrees .sequence (mask :: p) = true := by
  simp only [payloadAgrees, List.length_cons, beq_iff_eq]
  omega

theorem ownSequence_badArgument (hlen : p.length % 3 = 0)
    (h : ¬(1 ≤ mask.toNat ∧ mask.toNat ≤ 15) ∨ sequenceSteps p = none) :
    ownSequence tag (mask :: p) s = replyStatus tag .badArgument s := by
  simp only [ownSequence, payloadAgrees_sequence hlen, byteAt, List.getD_cons_zero, List.drop_succ_cons, List.drop_zero]
  by_cases hm : 1 ≤ mask.toNat ∧ mask.toNat ≤ 15
  · simp [h.resolve_left (not_not.2 hm), maskField_of_ok hm.1 hm.2]
  · simp [maskField_of_bad hm]

theorem ownSequence_admits {steps : List Machine.Step} (hlen : p.length % 3 = 0) (hmin : 1 ≤ mask.toNat)
    (hmax : mask.toNat ≤ 15) (hsteps : sequenceSteps p = some steps) :
    ownSequence tag (mask :: p) s = admitHostJob tag (mask.setWidth 4) (.sequence steps) s := by
  simp [ownSequence, payloadAgrees_sequence hlen, byteAt, maskField_of_ok hmin hmax, hsteps]

end

/-! ### The admission -/

section
variable {tag : Byte} {mask : Mask} {kind : JobKind} {u : State}

/-- A job admitted in a state, answered with its id (R107). -/
def admittedFor (tag : Byte) (mask : Mask) (kind : JobKind) (u : State) : State :=
  { answered tag .accepted [byte (nextId u.ems)] u with
    ems := { u.ems with
      jobs := u.ems.jobs ++
        [{ id := nextId u.ems, origin := .host tag, kind := kind, mask := mask, report := true, state := .queued,
           early := false, framesSent := 0, step := 0, deadline := none, play := none }]
      queues := u.ems.queues.mapAll fun e q => if hasEmitter mask e then q ++ [nextId u.ems] else q
      lastId := nextId u.ems } }

theorem admitHostJob_refused {st : Status} (h : admissionRefusal u mask = some st) :
    admitHostJob tag mask kind (found u) = answered tag st [] u := by
  have hfound : admissionRefusal (found u) mask = some st := h
  simp only [admitHostJob, hfound]
  rfl

theorem admitHostJob_admitted (h : admissionRefusal u mask = none) :
    admitHostJob tag mask kind (found u) = examine (admittedFor tag mask kind u) := by
  have hfound : admissionRefusal (found u) mask = none := h
  simp only [admitHostJob, hfound]
  rfl

theorem settleStandby_admitted :
    settleStandby (examine (admittedFor tag mask kind u)) = examine (admittedFor tag mask kind u) :=
  settleStandby_examine_answered (tag := tag) (st := .accepted) (more := [byte (nextId u.ems)]) (u := u)
    (.withEms rfl _ _)

end

/-- Settles O39: each request by its first failing check, and the admission where none fails. -/
theorem requestsAdmitJobs : Obligations.requestsAdmitJobs := by
  intro dt tag maskByte slot x p steps st s u mask admitted maskOk seconds
  refine ⟨fun hready => ?_, fun hready => ?_, fun hready hmin hmax => ?_⟩
  · have hexec : exec (.send dt tag maskByte slot x) s =
        .next (settleStandby (ownSend tag [maskByte, slot, x] (found u))) := event_of_ready hready (by simp) rfl
    rw [hexec]
    refine ⟨fun hbad => ?_, fun hm hslot hx href => ?_, fun hm hslot hx hadm => ?_⟩
    · rw [ownSend_badArgument hbad, replyStatus_found, settleStandby_answered]
    · rw [ownSend_admits hm.1 hm.2 hslot hx, admitHostJob_refused href, settleStandby_answered]
    · rw [ownSend_admits hm.1 hm.2 hslot hx, admitHostJob_admitted hadm, settleStandby_admitted]
      rfl
  · have hexec : exec (.hold dt tag maskByte slot x) s =
        .next (settleStandby (ownHold tag [maskByte, slot, x] (found u))) := event_of_ready hready (by simp) rfl
    rw [hexec]
    refine ⟨fun hbad => ?_, fun hm hslot hx href => ?_, fun hm hslot hx hadm => ?_⟩
    · rw [ownHold_badArgument hbad, replyStatus_found, settleStandby_answered]
    · rw [ownHold_admits hm.1 hm.2 hslot hx, admitHostJob_refused href, settleStandby_answered]
    · rw [ownHold_admits hm.1 hm.2 hslot hx, admitHostJob_admitted hadm, settleStandby_admitted]
      rfl
  · have hexec : exec (.sequence dt tag (maskByte :: p)) s =
        .next (settleStandby (ownSequence tag (maskByte :: p) (found u))) :=
      event_of_ready hready (by simp) (by simp [lengthFits, ReqKind.lengths]; omega)
    rw [hexec]
    refine ⟨fun hlen => ?_, fun hlen hbad => ?_, fun hlen hm hsteps href => ?_, fun hlen hm hsteps hadm => ?_⟩
    · rw [ownSequence_badLength hlen, replyStatus_found, settleStandby_answered]
    · rw [ownSequence_badArgument hlen hbad, replyStatus_found, settleStandby_answered]
    · rw [ownSequence_admits hlen hm.1 hm.2 hsteps, admitHostJob_refused href, settleStandby_answered]
    · rw [ownSequence_admits hlen hm.1 hm.2 hsteps, admitHostJob_admitted hadm, settleStandby_admitted]
      rfl

end Sys2Proof.Machine
end

section
/-! CANCEL, RELEASE, FLUSH and JOB_STATUS (R114 to R117). -/

namespace Sys2Proof.Machine

/-! ### What a job's state makes of a CANCEL or RELEASE -/

section
variable {s : State} {id : Nat} {j : Job}

theorem findEnded_isSome_iff : (findEnded s id).isSome = true ↔ ∃ r ∈ s.ems.recent, r.id = id := by
  simp [findEnded, List.find?_isSome]

theorem cancelJob_queued (h : findJob s id = some j) (hs : j.state = .queued) :
    cancelJob id s = endJob id .cancelled s := by
  simp only [cancelJob, h, hs]

theorem cancelJob_active (h : findJob s id = some j) (hs : j.state = .active) :
    cancelJob id s = enterEnding id .cancelled s := by
  simp only [cancelJob, h, hs]

theorem releaseJob_queued (h : findJob s id = some j) (hk : j.isHold = true) (hs : j.state = .queued) :
    releaseJob id s = updateJob s id fun j => { j with early := true } := by
  simp only [releaseJob, h, hk, hs, if_true]

theorem releaseJob_active (h : findJob s id = some j) (hk : j.isHold = true) (hs : j.state = .active) :
    releaseJob id s = enterEnding id .released s := by
  simp only [releaseJob, h, hk, hs, if_true]

theorem cancelAnswer_ok (h : findJob s id = some j) (hs : j.state = .queued ∨ j.state = .active) :
    cancelAnswer s id = .ok := by
  rcases hs with hs | hs <;> simp only [cancelAnswer, h, hs]

theorem cancelAnswer_tooLate {why : JobOutcome}
    (h : (findJob s id = some j ∧ j.state = .ending why) ∨ (findJob s id = none ∧ ∃ r ∈ s.ems.recent, r.id = id)) :
    cancelAnswer s id = .tooLate := by
  rcases h with ⟨h, hs⟩ | ⟨h, hr⟩
  · simp only [cancelAnswer, h, hs]
  · simp only [cancelAnswer, h]
    exact if_pos (findEnded_isSome_iff.2 hr)

theorem not_ended (hr : ∀ r ∈ s.ems.recent, r.id ≠ id) : ¬(findEnded s id).isSome = true := by
  rw [findEnded_isSome_iff]
  exact fun ⟨r, hmem, hid⟩ => hr r hmem hid

theorem cancelAnswer_notFound (h : findJob s id = none) (hr : ∀ r ∈ s.ems.recent, r.id ≠ id) :
    cancelAnswer s id = .notFound := by
  simp only [cancelAnswer, h]
  exact if_neg (not_ended hr)

theorem releaseAnswer_wrongKind (h : findJob s id = some j) (hk : j.isHold = false) :
    releaseAnswer s id = .wrongKind := by
  simp [releaseAnswer, h, hk]

theorem releaseAnswer_ok (h : findJob s id = some j) (hk : j.isHold = true)
    (hs : j.state = .queued ∨ j.state = .active) : releaseAnswer s id = .ok := by
  rcases hs with hs | hs <;> simp only [releaseAnswer, h, hk, hs, if_true]

theorem releaseAnswer_tooLate {why : JobOutcome}
    (h : (findJob s id = some j ∧ j.isHold = true ∧ j.state = .ending why) ∨
      (findJob s id = none ∧ ∃ r ∈ s.ems.recent, r.id = id)) : releaseAnswer s id = .tooLate := by
  rcases h with ⟨h, hk, hs⟩ | ⟨h, hr⟩
  · simp only [releaseAnswer, h, hk, hs, if_true]
  · simp only [releaseAnswer, h]
    exact if_pos (findEnded_isSome_iff.2 hr)

theorem releaseAnswer_notFound (h : findJob s id = none) (hr : ∀ r ∈ s.ems.recent, r.id ≠ id) :
    releaseAnswer s id = .notFound := by
  simp only [releaseAnswer, h]
  exact if_neg (not_ended hr)

end

/-! ### CANCEL and RELEASE -/

section
variable {tag id : Byte} {s : State}

theorem ownCancel_ok (h : cancelAnswer s id.toNat = .ok) :
    ownCancel tag [id] s = examine (cancelJob id.toNat (replyStatus tag .ok s)) := by
  simp only [ownCancel, byteAt, List.getD_cons_zero, h]

theorem ownCancel_refused {st : Status} (h : cancelAnswer s id.toNat = st) (hst : st ≠ .ok) :
    ownCancel tag [id] s = replyStatus tag st s := by
  subst h
  simp only [ownCancel, byteAt, List.getD_cons_zero]

theorem ownRelease_ok (h : releaseAnswer s id.toNat = .ok) :
    ownRelease tag [id] s = examine (releaseJob id.toNat (replyStatus tag .ok s)) := by
  simp only [ownRelease, byteAt, List.getD_cons_zero, h]

theorem ownRelease_refused {st : Status} (h : releaseAnswer s id.toNat = st) (hst : st ≠ .ok) :
    ownRelease tag [id] s = replyStatus tag st s := by
  subst h
  simp only [ownRelease, byteAt, List.getD_cons_zero]

variable {dt : Nat} {st : Status}

theorem exec_cancel_refused (hready : PortReady .cancel (advance dt s))
    (h : cancelAnswer (found (advance dt s)) id.toNat = st) (hst : st ≠ .ok) :
    exec (.cancel dt tag id) s = .next (answered tag st [] (advance dt s)) := by
  have hexec : exec (.cancel dt tag id) s = .next (settleStandby (ownCancel tag [id] (found (advance dt s)))) :=
    event_of_ready hready (by simp) rfl
  rw [hexec, ownCancel_refused h hst, replyStatus_found, settleStandby_answered]

theorem exec_cancel_ok (hready : PortReady .cancel (advance dt s))
    (h : cancelAnswer (found (advance dt s)) id.toNat = .ok) :
    exec (.cancel dt tag id) s = .next (examine (cancelJob id.toNat (answered tag .ok [] (advance dt s)))) := by
  have hexec : exec (.cancel dt tag id) s = .next (settleStandby (ownCancel tag [id] (found (advance dt s)))) :=
    event_of_ready hready (by simp) rfl
  rw [hexec, ownCancel_ok h, replyStatus_found,
    settleStandby_examine_answered (cancelJob_changes Blocks.scheduler_emission _ _)]

theorem exec_release_refused (hready : PortReady .release (advance dt s))
    (h : releaseAnswer (found (advance dt s)) id.toNat = st) (hst : st ≠ .ok) :
    exec (.release dt tag id) s = .next (answered tag st [] (advance dt s)) := by
  have hexec : exec (.release dt tag id) s = .next (settleStandby (ownRelease tag [id] (found (advance dt s)))) :=
    event_of_ready hready (by simp) rfl
  rw [hexec, ownRelease_refused h hst, replyStatus_found, settleStandby_answered]

theorem exec_release_ok (hready : PortReady .release (advance dt s))
    (h : releaseAnswer (found (advance dt s)) id.toNat = .ok) :
    exec (.release dt tag id) s = .next (examine (releaseJob id.toNat (answered tag .ok [] (advance dt s)))) := by
  have hexec : exec (.release dt tag id) s = .next (settleStandby (ownRelease tag [id] (found (advance dt s)))) :=
    event_of_ready hready (by simp) rfl
  rw [hexec, ownRelease_ok h, replyStatus_found,
    settleStandby_examine_answered (releaseJob_changes Blocks.scheduler_emission _ _)]

end

/-! ### FLUSH -/

/-- The collection of ids at their first appearance keeps what it has and adds what it meets, once. -/
theorem mem_foldl_firstAppearance {id : Nat} (l seen : List Nat) :
    id ∈ l.foldl (fun seen id => if id ∈ seen then seen else seen ++ [id]) seen ↔ id ∈ seen ∨ id ∈ l := by
  induction l generalizing seen with
  | nil => simp
  | cons x l ih =>
    rw [List.foldl_cons, ih]
    by_cases hx : x ∈ seen
    · rw [if_pos hx, List.mem_cons]
      refine ⟨fun h => h.imp_right .inr, ?_⟩
      rintro (h | rfl | h)
      · exact .inl h
      · exact .inl hx
      · exact .inr h
    · rw [if_neg hx, List.mem_append, List.mem_singleton, List.mem_cons, or_assoc]

theorem nodup_foldl_firstAppearance (l : List Nat) {seen : List Nat} (h : seen.Nodup) :
    (l.foldl (fun seen id => if id ∈ seen then seen else seen ++ [id]) seen).Nodup := by
  induction l generalizing seen with
  | nil => exact h
  | cons x l ih =>
    rw [List.foldl_cons]
    split
    · exact ih h
    · next hx => exact ih (List.nodup_append_comm.1 (List.nodup_cons.2 ⟨hx, h⟩))

theorem cancellable_iff {s : State} {id : Nat} :
    cancellable s id = true ↔ ∃ k, findJob s id = some k ∧ (k.state = .queued ∨ k.state = .active) := by
  unfold cancellable
  cases h : findJob s id with
  | none => simp
  | some k => cases hs : k.state <;> simp [hs]

theorem mem_flushTargets {s : State} {mask : Mask} {id : Nat} :
    id ∈ flushTargets s mask ↔
      (∃ e, hasEmitter mask e = true ∧ id ∈ s.ems.queues.get e) ∧
        ∃ k, findJob s id = some k ∧ (k.state = .queued ∨ k.state = .active) := by
  simp [flushTargets, jobsOf, mem_foldl_firstAppearance, cancellable_iff, mem_maskEmitters]

theorem flushTargets_nodup (s : State) (mask : Mask) : (flushTargets s mask).Nodup :=
  (nodup_foldl_firstAppearance _ List.nodup_nil).filter _

section
variable {tag x : Byte} {s : State}

theorem ownFlush_badArgument (h : x = 0 ∨ 16 ≤ x.toNat) : ownFlush tag [x] s = replyStatus tag .badArgument s := by
  have hbad : ¬(1 ≤ x.toNat ∧ x.toNat ≤ 15) := by
    rintro ⟨hmin, hmax⟩
    rcases h with rfl | h
    · exact absurd hmin (by decide)
    · omega
  simp only [ownFlush, byteAt, List.getD_cons_zero, maskField_of_bad hbad]

theorem ownFlush_taken (hmin : 1 ≤ x.toNat) (hmax : x.toNat ≤ 15) :
    ownFlush tag [x] s =
      examine ((flushTargets s (x.setWidth 4)).foldl (fun t id => cancelJob id t)
        (reply tag .ok [byte (flushTargets s (x.setWidth 4)).length] s)) := by
  simp only [ownFlush, byteAt, List.getD_cons_zero, maskField_of_ok hmin hmax]

end

/-! ### JOB_STATUS -/

section
variable {tag x : Byte} {s : State} {j : Job}

/-- The step that JOB_STATUS reports of a SEQUENCE: free within its range before the activation, then the job's own. -/
theorem stepByte_sequence {steps : List Machine.Step} (h : j.kind = .sequence steps) :
    if j.state = .queued then 1 ≤ (stepByte s j).toNat ∧ (stepByte s j).toNat ≤ 16 else stepByte s j = byte j.step := by
  cases hs : j.state with
  | queued =>
    have hlt := (Config.queuedStep j.id s.now).isLt
    have hval : stepByte s j = byte ((Config.queuedStep j.id s.now).val + 1) := by simp only [stepByte, h, hs]
    rw [if_pos rfl, hval, byte_toNat (by omega)]
    omega
  | active => simp [stepByte, h, hs]
  | ending why => simp [stepByte, h, hs]

theorem stepByte_other (h : ∀ steps, j.kind ≠ .sequence steps) : stepByte s j = 0x00 := by
  cases hk : j.kind with
  | send slot frames => simp only [stepByte, hk]
  | hold slot limit => simp only [stepByte, hk]
  | sequence steps => exact absurd hk (h steps)

theorem liveStatus_eq (s : State) (j : Job) :
    liveStatus s j =
      [j.state.code, j.kind.code] ++ j.origin.bytes ++ [j.mask.setWidth 8, reasonByte j.state] ++ word j.framesSent ++
        [stepByte s j, positionByte s j .e0, positionByte s j .e1, positionByte s j .e2, positionByte s j .e3] := by
  rw [liveStatus, List.append_assoc _ [stepByte s j]]
  rfl

theorem ownJobStatus_live (h : findJob s x.toNat = some j) :
    ownJobStatus tag [x] s = reply tag .ok (liveStatus s j) s := by
  simp only [ownJobStatus, byteAt, List.getD_cons_zero, h]

theorem ownJobStatus_ended {r : Ended} (h : findJob s x.toNat = none) (hr : findEnded s x.toNat = some r) :
    ownJobStatus tag [x] s = reply tag .ok (endedStatus r) s := by
  simp only [ownJobStatus, byteAt, List.getD_cons_zero, h, hr]

theorem ownJobStatus_notFound (h : findJob s x.toNat = none) (hr : findEnded s x.toNat = none) :
    ownJobStatus tag [x] s = replyStatus tag .notFound s := by
  simp only [ownJobStatus, byteAt, List.getD_cons_zero, h, hr]

end

/-- Settles O45: each request by the state of the job it names, or by the jobs of the queues it names. -/
theorem jobRequestsAnswered : Obligations.jobRequestsAnswered := by
  refine ⟨?_, ?_⟩
  · intro dt tag id j why s u n v
    refine ⟨fun hready => ⟨fun hj hs => ?_, fun hj hs => ?_, fun h => ?_, fun hj hr => ?_⟩,
      fun hready => ⟨fun hj hk => ?_, fun hj hk hs => ?_, fun hj hk hs => ?_, fun h => ?_, fun hj hr => ?_⟩⟩
    · rw [exec_cancel_ok hready (cancelAnswer_ok hj (.inl hs)), cancelJob_queued (s := v) hj hs]
    · rw [exec_cancel_ok hready (cancelAnswer_ok hj (.inr hs)), cancelJob_active (s := v) hj hs]
    · exact exec_cancel_refused hready (cancelAnswer_tooLate h) (by simp)
    · exact exec_cancel_refused hready (cancelAnswer_notFound hj hr) (by simp)
    · exact exec_release_refused hready (releaseAnswer_wrongKind hj hk) (by simp)
    · rw [exec_release_ok hready (releaseAnswer_ok hj hk (.inl hs)), releaseJob_queued (s := v) hj hk hs]
      rfl
    · rw [exec_release_ok hready (releaseAnswer_ok hj hk (.inr hs)), releaseJob_active (s := v) hj hk hs]
    · exact exec_release_refused hready (releaseAnswer_tooLate h) (by simp)
    · exact exec_release_refused hready (releaseAnswer_notFound hj hr) (by simp)
  · intro dt tag x j r s u mask targets
    refine ⟨fun hready => ?_, fun id => mem_flushTargets, flushTargets_nodup u mask, fun hready => ?_⟩
    · have hexec : exec (.flush dt tag x) s = .next (settleStandby (ownFlush tag [x] (found u))) :=
        event_of_ready hready (by simp) rfl
      rw [hexec]
      refine ⟨fun hbad => ?_, fun hmin hmax => ?_⟩
      · rw [ownFlush_badArgument hbad, replyStatus_found, settleStandby_answered]
      · rw [ownFlush_taken hmin hmax, reply_found, settleStandby_examine_answered
          (Changes.foldl (fun t id => cancelJob_changes Blocks.scheduler_emission id t) _ _)]
        rfl
    · have hexec : exec (.jobStatus dt tag x) s = .next (settleStandby (ownJobStatus tag [x] (found u))) :=
        event_of_ready hready (by simp) rfl
      rw [hexec]
      refine ⟨fun hj => ⟨stepByte u j, fun steps hk => stepByte_sequence hk, stepByte_other, ?_⟩, fun hj hr => ?_,
        fun hj hr => ?_⟩
      · rw [ownJobStatus_live (s := found u) hj, reply_found, settleStandby_answered, liveStatus_eq]
        rfl
      · rw [ownJobStatus_ended (s := found u) hj hr, reply_found, settleStandby_answered]
        rfl
      · rw [ownJobStatus_notFound (s := found u) hj hr, replyStatus_found, settleStandby_answered]

end Sys2Proof.Machine
end

section
/-! EMITTER_CONTROL (R118, R119, Table 7-5). -/

namespace Sys2Proof.Machine

/-! ### The checks -/

theorem emitterOfNumber_eq_none {n : Nat} (h : 4 ≤ n) : emitterOfNumber n = none := by
  obtain ⟨k, rfl⟩ := Nat.exists_eq_add_of_le' h
  rfl

@[simp] theorem emitterOfNumber_emitterNumber (e : Emitter) : emitterOfNumber (emitterNumber e) = some e := by
  cases e <;> rfl

section
variable {tag x action : Byte} {e : Emitter} {s : State}

theorem ownEmitterControl_badEmitter (h : 4 ≤ x.toNat) :
    ownEmitterControl tag [x, action] s = replyStatus tag .badArgument s := by
  simp only [ownEmitterControl, byteAt, List.getD_cons_zero, emitterOfNumber_eq_none h]

/-- The five actions by their codes (Section 7.8). -/
theorem ownEmitterControl_actions (h : x.toNat = emitterNumber e) :
    ownEmitterControl tag [x, 0x00] s = disableEmitter tag e s ∧
    ownEmitterControl tag [x, 0x01] s = enableEmitter tag e s ∧
    ownEmitterControl tag [x, 0x02] s = clearFaultOf tag e s ∧
    ownEmitterControl tag [x, 0x03] s = setNear true tag e s ∧
    ownEmitterControl tag [x, 0x04] s = setNear false tag e s := by
  simp [ownEmitterControl, byteAt, h]

/-! ### The channel's state -/

theorem channelState_off (h : (s.channels.get e).mode = .off) : channelState s e = .off := by
  simp only [channelState, h]

theorem channelState_fault {k : FaultKind} (h : (s.channels.get e).mode = .fault k) : channelState s e = .fault := by
  simp only [channelState, h]

theorem channelState_idle (h : (s.channels.get e).mode = .on) (hq : s.ems.queues.get e = []) :
    channelState s e = .idle := by
  simp only [channelState, h, hq, List.head?_nil]

theorem failQueued_of_empty {why : JobOutcome} (hq : s.ems.queues.get e = []) : failQueued e why s = s := by
  simp [failQueued, hq]

/-! ### The actions -/

/-- DISABLE of a channel that is IDLE or WAITING (R118). -/
theorem disableEmitter_taken (h : channelState s e = .idle ∨ channelState s e = .waiting) :
    disableEmitter tag e s =
      examine (updateChannel (failQueued e .failedOff (replyStatus tag .ok s)) e fun c => { c with mode := .off }) := by
  rcases h with h | h <;> simp only [disableEmitter, h]

theorem disableEmitter_busy (h : channelState s e = .busy) : disableEmitter tag e s = replyStatus tag .busy s := by
  simp only [disableEmitter, h]

theorem disableEmitter_off (h : channelState s e = .off) : disableEmitter tag e s = replyStatus tag .ok s := by
  simp only [disableEmitter, h]

theorem disableEmitter_fault (h : channelState s e = .fault) : disableEmitter tag e s = replyStatus tag .wrongState s := by
  simp only [disableEmitter, h]

theorem enableEmitter_off (h : (s.channels.get e).mode = .off) :
    enableEmitter tag e s = updateChannel (replyStatus tag .ok s) e fun c => { c with mode := .on } := by
  simp only [enableEmitter, h]

theorem enableEmitter_on (h : (s.channels.get e).mode = .on) : enableEmitter tag e s = replyStatus tag .ok s := by
  simp only [enableEmitter, h]

theorem enableEmitter_fault {k : FaultKind} (h : (s.channels.get e).mode = .fault k) :
    enableEmitter tag e s = replyStatus tag .wrongState s := by
  simp only [enableEmitter, h]

theorem clearFaultOf_fault {k : FaultKind} (h : (s.channels.get e).mode = .fault k) :
    clearFaultOf tag e s =
      updateChannel (replyStatus tag .ok s) e fun c =>
        { c with mode := .on, stopped := !(s.ems.queues.get e).isEmpty } := by
  simp only [clearFaultOf, h]

theorem clearFaultOf_other (h : ∀ k, (s.channels.get e).mode ≠ .fault k) :
    clearFaultOf tag e s = replyStatus tag .wrongState s := by
  unfold clearFaultOf
  split
  · next k hk => exact absurd hk (h k)
  · rfl

end

/-- A change of one channel ends the step of its request. -/
theorem settleStandby_updateChannel_answered {tag : Byte} {st : Status} {u : State} {e : Emitter} {f : Channel → Channel} :
    settleStandby (updateChannel (answered tag st [] u) e f) = updateChannel (answered tag st [] u) e f :=
  settleStandby_of_scheduler (updateChannel_changes rfl _ e f)

theorem settleStandby_disabled {tag : Byte} {u : State} {e : Emitter} {f : Channel → Channel} :
    settleStandby (examine (updateChannel (failQueued e .failedOff (answered tag .ok [] u)) e f)) =
      examine (updateChannel (failQueued e .failedOff (answered tag .ok [] u)) e f) :=
  settleStandby_examine_answered
    ((failQueued_changes Blocks.scheduler_emission e _ _).trans (updateChannel_changes rfl _ e f))

/-- Settles O46: the five actions by the state of the channel. -/
theorem emitterControlActs : Obligations.emitterControlActs := by
  intro dt tag x e k s u c v became hready
  have hcontrol (action : Byte) : event dt (hostRequest .emitterControl tag [x, action]) s =
      .next (settleStandby (ownEmitterControl tag [x, action] (found u))) := event_of_ready hready (by simp) rfl
  refine ⟨fun hx i hi => ?_, fun hx => ?_⟩
  · have hbad (action : Byte) : event dt (hostRequest .emitterControl tag [x, action]) s =
        .next (answered tag .badArgument [] u) := by
      rw [hcontrol, ownEmitterControl_badEmitter hx, replyStatus_found, settleStandby_answered]
    simp only [List.mem_cons, List.not_mem_nil, or_false] at hi
    rcases hi with rfl | rfl | rfl | rfl | rfl <;> exact hbad _
  · obtain ⟨hdisable, henable, hclear, hnear, hfar⟩ := ownEmitterControl_actions (tag := tag) (s := found u) hx
    have hexecDisable : exec (.disable dt tag x) s = .next (settleStandby (disableEmitter tag e (found u))) :=
      (hcontrol 0x00).trans (by rw [hdisable])
    have hexecEnable : exec (.enable dt tag x) s = .next (settleStandby (enableEmitter tag e (found u))) :=
      (hcontrol 0x01).trans (by rw [henable])
    have hexecClear : exec (.clearFault dt tag x) s = .next (settleStandby (clearFaultOf tag e (found u))) :=
      (hcontrol 0x02).trans (by rw [hclear])
    have hexecNear : exec (.nearOn dt tag x) s = .next (settleStandby (setNear true tag e (found u))) :=
      (hcontrol 0x03).trans (by rw [hnear])
    have hexecFar : exec (.nearOff dt tag x) s = .next (settleStandby (setNear false tag e (found u))) :=
      (hcontrol 0x04).trans (by rw [hfar])
    refine ⟨fun hon hq => ?_, fun hw => ?_, fun hb => ?_, fun hoff => ?_, fun hf => ⟨?_, ?_⟩, fun hoff => ?_,
      fun hon => ?_, fun hf => ?_, fun hnf => ?_, ?_, ?_⟩
    · rw [hexecDisable, disableEmitter_taken (.inl (channelState_idle (s := found u) hon hq)), replyStatus_found, settleStandby_disabled,
        failQueued_of_empty (s := v) hq]
      rfl
    · rw [hexecDisable, disableEmitter_taken (s := found u) (.inr hw), replyStatus_found, settleStandby_disabled]
    · rw [hexecDisable, disableEmitter_busy (s := found u) hb, replyStatus_found, settleStandby_answered]
    · rw [hexecDisable, disableEmitter_off (channelState_off (s := found u) hoff), replyStatus_found, settleStandby_answered]
    · rw [hexecDisable, disableEmitter_fault (channelState_fault (s := found u) hf), replyStatus_found, settleStandby_answered]
    · rw [hexecEnable, enableEmitter_fault (s := found u) hf, replyStatus_found, settleStandby_answered]
    · rw [hexecEnable, enableEmitter_off (s := found u) hoff, replyStatus_found, settleStandby_updateChannel_answered]
      rfl
    · rw [hexecEnable, enableEmitter_on (s := found u) hon, replyStatus_found, settleStandby_answered]
    · rw [hexecClear, clearFaultOf_fault (s := found u) hf, replyStatus_found, settleStandby_updateChannel_answered]
      rfl
    · rw [hexecClear, clearFaultOf_other (s := found u) hnf, replyStatus_found, settleStandby_answered]
    · rw [hexecNear, setNear, replyStatus_found, settleStandby_updateChannel_answered]
      rfl
    · rw [hexecFar, setNear, replyStatus_found, settleStandby_updateChannel_answered]
      rfl

end Sys2Proof.Machine
end

section
/-! The queues and the jobs they hold (R99 to R105, R120, R135, R151): the invariant, and what each operation of the scheduler
makes of it.  A drive fault takes the channel out of use before the jobs of its queue are failed, so the invariant is stated
with one channel excused from following its mode. -/

namespace Sys2Proof.Machine

/-! ### The invariant -/

/-- The parts of the invariant that ask nothing of the channels (R99 to R105, R151). -/
structure JobsSound (s : State) : Prop where
  bounded : QueuesBounded s
  queued : JobsQueued s
  ordered : QueuesOrdered s
  links : LinksNameHolds s

/-- The queue of an emitter is as a channel of the given mode and STOPPED phase asks (R103, R120, R135). -/
structure FollowsAs (s : State) (e : Emitter) (mode : ChannelMode) (stopped : Bool) : Prop where
  ofOff : mode = .off → s.ems.queues.get e = []
  ofFault : ∀ k, mode = .fault k → ∀ id ∈ s.ems.queues.get e, isEnding s id
  ofStopped : stopped = true → ∃ id, headOf s e = some id ∧ isEnding s id

/-- The mode that an emitter's queue has to follow: a channel whose fault is still being taken is followed as one in use. -/
def modeBut (faulting : Option Emitter) (s : State) (e : Emitter) : ChannelMode :=
  if faulting = some e then .on else (s.channels.get e).mode

/-- The invariant, with the mode of one channel excused. -/
structure QueuesSoundBut (faulting : Option Emitter) (s : State) : Prop extends JobsSound s where
  follows : ∀ e, FollowsAs s e (modeBut faulting s e) (s.channels.get e).stopped

/-- The invariant of the queues. -/
abbrev QueuesSound : State → Prop := QueuesSoundBut none

theorem channelsFollowQueues_iff {s : State} :
    ChannelsFollowQueues s ↔ ∀ e, FollowsAs s e (s.channels.get e).mode (s.channels.get e).stopped :=
  forall_congr' fun _ => ⟨fun ⟨hoff, hfault, hstopped⟩ => ⟨hoff, hfault, hstopped⟩, fun h => ⟨h.ofOff, h.ofFault, h.ofStopped⟩⟩

theorem queuesSound_iff {s : State} :
    QueuesSound s ↔
      QueuesBounded s ∧ JobsQueued s ∧ QueuesOrdered s ∧ ChannelsFollowQueues s ∧ LinksNameHolds s := by
  rw [channelsFollowQueues_iff]
  exact ⟨fun h => ⟨h.bounded, h.queued, h.ordered, h.follows, h.links⟩,
    fun ⟨hbounded, hqueued, hordered, hfollows, hlinks⟩ => ⟨⟨hbounded, hqueued, hordered, hlinks⟩, hfollows⟩⟩

/-! ### What the invariant says of a state -/

section
variable {s : State} {id : Nat} {j : Job} {e : Emitter}

theorem JobsSound.findJob_of_mem (h : JobsSound s) (hj : j ∈ s.ems.jobs) : findJob s j.id = some j := by
  obtain ⟨hnodup, -⟩ := h.queued
  cases hfind : findJob s j.id with
  | none => simpa using List.find?_eq_none.1 hfind j hj
  | some x =>
    rw [List.inj_on_of_nodup_map hnodup (List.mem_of_find?_eq_some hfind) hj (id_of_findJob hfind)]

theorem JobsSound.mem_queue_iff (h : JobsSound s) :
    id ∈ s.ems.queues.get e ↔ ∃ j, findJob s id = some j ∧ hasEmitter j.mask e = true := by
  obtain ⟨-, -, -, hmem, -⟩ := h.queued
  rw [hmem]
  constructor
  · rintro ⟨j, hj, rfl, he⟩
    exact ⟨j, h.findJob_of_mem hj, he⟩
  · rintro ⟨j, hj, he⟩
    exact ⟨j, List.mem_of_find?_eq_some hj, id_of_findJob hj, he⟩

/-- A job in ACTIVE or ENDING heads every queue of its mask (R103). -/
theorem JobsSound.heads (h : JobsSound s) (hj : findJob s id = some j) (hs : j.state ≠ .queued)
    (he : hasEmitter j.mask e = true) : headOf s e = some id := by
  obtain ⟨-, -, -, -, hheads⟩ := h.queued
  rw [← id_of_findJob hj]
  exact hheads j (List.mem_of_find?_eq_some hj) hs e he

/-! ### A state with the same queues -/

/-- The fields on which the invariant rests. -/
theorem JobsSound.of_same {t : State} (h : JobsSound s) (hems : t.ems = s.ems) (hroutes : t.routes = s.routes) :
    JobsSound t := by
  obtain ⟨hbounded, hqueued, hordered, hlinks⟩ := h
  refine ⟨?_, ?_, ?_, ?_⟩
  · unfold QueuesBounded
    rwa [hems]
  · unfold JobsQueued headOf
    rwa [hems]
  · unfold QueuesOrdered
    rwa [hems]
  · unfold LinksNameHolds findJob
    rwa [hems, hroutes]

theorem FollowsAs.of_same {t : State} {mode : ChannelMode} {stopped : Bool} (h : FollowsAs s e mode stopped)
    (hqueue : t.ems.queues.get e = s.ems.queues.get e) (hending : ∀ k, isEnding s k → isEnding t k) :
    FollowsAs t e mode stopped where
  ofOff hm := hqueue.trans (h.ofOff hm)
  ofFault k hm id hid := hending id (h.ofFault k hm id (hqueue ▸ hid))
  ofStopped hs := by
    obtain ⟨id, hhead, hend⟩ := h.ofStopped hs
    exact ⟨id, by rwa [headOf, hqueue], hending id hend⟩

end

/-- From `s` to `t` the scheduler, the routes, and the mode and STOPPED phase of every channel stay as they are. -/
structure BesideQueues (s t : State) : Prop where
  ems : t.ems = s.ems
  routes : t.routes = s.routes
  mode : ∀ e, (t.channels.get e).mode = (s.channels.get e).mode
  stopped : ∀ e, (t.channels.get e).stopped = (s.channels.get e).stopped

theorem QueuesSoundBut.beside {o : Option Emitter} {s t : State} (h : QueuesSoundBut o s) (hst : BesideQueues s t) :
    QueuesSoundBut o t where
  toJobsSound := h.toJobsSound.of_same hst.ems hst.routes
  follows e := by
    have hfollows := h.follows e
    rw [modeBut, ← hst.mode, ← hst.stopped] at hfollows
    refine hfollows.of_same (by rw [hst.ems]) fun k => ?_
    rintro ⟨j, why, hj, hs⟩
    exact ⟨j, why, (findJob_congr (by rw [hst.ems]) k).trans hj, hs⟩

/-! ### A change of one job -/

/-- What the admission of a job fixes (R107). -/
def Job.admission (j : Job) : Nat × Mask × JobKind × Origin := (j.id, j.mask, j.kind, j.origin)

/-- A change of a job leaves what its admission fixed. -/
def KeepsAdmission (f : Job → Job) : Prop := ∀ j, (f j).admission = j.admission

section
variable {f : Job → Job}

theorem KeepsAdmission.id (hf : KeepsAdmission f) (j : Job) : (f j).id = j.id := congrArg Prod.fst (hf j)

theorem KeepsAdmission.mask (hf : KeepsAdmission f) (j : Job) : (f j).mask = j.mask := congrArg (·.2.1) (hf j)

theorem KeepsAdmission.kind (hf : KeepsAdmission f) (j : Job) : (f j).kind = j.kind := congrArg (·.2.2.1) (hf j)

theorem KeepsAdmission.origin (hf : KeepsAdmission f) (j : Job) : (f j).origin = j.origin := congrArg (·.2.2.2) (hf j)

theorem KeepsAdmission.ite (hf : KeepsAdmission f) {id : Nat} : KeepsAdmission fun j => if j.id = id then f j else j := by
  intro j
  dsimp only
  split
  · exact hf j
  · rfl

end

section
variable {s : State} {id : Nat} {j : Job} {f : Job → Job} {o : Option Emitter}

theorem mem_updateJob_jobs {x : Job} (h : x ∈ (updateJob s id f).ems.jobs) :
    ∃ j ∈ s.ems.jobs, x = if j.id = id then f j else j := by
  obtain ⟨j, hj, rfl⟩ := List.mem_map.1 h
  exact ⟨j, hj, rfl⟩

/-- A job may leave QUEUED only at the head of all its queues (R103). -/
theorem JobsSound.updateJob (h : JobsSound s) (hf : KeepsAdmission f)
    (hheads : ∀ j, findJob s id = some j → (f j).state ≠ .queued → ∀ e, hasEmitter j.mask e = true →
      headOf s e = some id) : JobsSound (updateJob s id f) := by
  have hg := hf.ite (id := id)
  obtain ⟨hnodup, hrange, hqueues, hmem, hhead⟩ := h.queued
  obtain ⟨hjobs, hlengths⟩ := h.bounded
  have hids : (Machine.updateJob s id f).ems.jobs.map (·.id) = s.ems.jobs.map (·.id) := by
    simp only [Machine.updateJob, updateJobIn, State.withEms_ems, List.map_map]
    exact List.map_congr_left fun j _ => hg.id j
  refine ⟨⟨?_, hlengths⟩, ⟨hids ▸ hnodup, fun x hx => ?_, hqueues, fun e k => ?_, fun x hx hs e he => ?_⟩, h.ordered,
    fun i r k hr hlink => ?_⟩
  · simpa [Machine.updateJob, updateJobIn] using hjobs
  · obtain ⟨j, hj, rfl⟩ := mem_updateJob_jobs hx
    rw [hg.id]
    exact hrange j hj
  · refine (hmem e k).trans ⟨?_, ?_⟩
    · rintro ⟨j, hj, hid, he⟩
      exact ⟨_, List.mem_map_of_mem hj, (hg.id j).trans hid, by rwa [hg.mask]⟩
    · rintro ⟨x, hx, hid, he⟩
      obtain ⟨j, hj, rfl⟩ := mem_updateJob_jobs hx
      rw [hg.id] at hid
      rw [hg.mask] at he
      exact ⟨j, hj, hid, he⟩
  · obtain ⟨j, hj, rfl⟩ := mem_updateJob_jobs hx
    rw [hg.mask] at he
    rw [hg.id]
    split at hs
    · next hid => exact hid ▸ hheads j (hid ▸ h.findJob_of_mem hj) hs e he
    · exact hhead j hj hs e he
  · obtain ⟨j, hj, hhold, horigin⟩ := h.links i r k hr hlink
    refine ⟨_, by rw [findJob_updateJob hf.id, hj]; rfl, ?_, ?_⟩
    · rwa [Job.isHold, hg.kind]
    · exact (hg.origin j).trans horigin

theorem isEnding_updateJob (hf : ∀ j, (f j).id = j.id)
    (hstate : ∀ j why, j.state = .ending why → ∃ why', (f j).state = .ending why') {k : Nat} (h : isEnding s k) :
    isEnding (updateJob s id f) k := by
  obtain ⟨j, why, hj, hs⟩ := h
  by_cases hid : j.id = id
  · obtain ⟨why', hs'⟩ := hstate j why hs
    exact ⟨f j, why', by rw [findJob_updateJob hf, hj, Option.map_some, if_pos hid], hs'⟩
  · exact ⟨j, why, by rw [findJob_updateJob hf, hj, Option.map_some, if_neg hid], hs⟩

/-- A change of a job that leaves QUEUED at the heads of its queues, or stays there, and keeps ENDING. -/
theorem QueuesSoundBut.updateJob (h : QueuesSoundBut o s) (hf : KeepsAdmission f)
    (hheads : ∀ j, findJob s id = some j → (f j).state ≠ .queued → ∀ e, hasEmitter j.mask e = true →
      headOf s e = some id)
    (hending : ∀ j why, j.state = .ending why → ∃ why', (f j).state = .ending why') :
    QueuesSoundBut o (updateJob s id f) where
  toJobsSound := h.toJobsSound.updateJob hf hheads
  follows e := (h.follows e).of_same rfl fun _ => isEnding_updateJob hf.id hending

/-- A change of a job that leaves its state alone. -/
theorem QueuesSoundBut.updateJob_sameState (h : QueuesSoundBut o s) (hf : KeepsAdmission f)
    (hstate : ∀ j, (f j).state = j.state) : QueuesSoundBut o (Machine.updateJob s id f) :=
  h.updateJob hf (fun j hj hs _ he => h.heads hj (hstate j ▸ hs) he) fun j why hs => ⟨why, (hstate j).trans hs⟩

/-! ### The end of a job -/

theorem mem_pushRecent {recent : List Ended} {x r : Ended} (h : r ∈ pushRecent recent x) : r ∈ recent ∨ r = x := by
  rw [pushRecent_eq] at h
  simpa using List.mem_of_mem_drop h

theorem length_pushRecent_le (recent : List Ended) (x : Ended) : (pushRecent recent x).length ≤ maxRecent := by
  simp only [pushRecent, List.length_drop]
  omega

/-- What is left of a queue keeps its head, unless that job ended. -/
theorem headOf_endJob {why : JobOutcome} {e : Emitter} {k : Nat} (hk : k ≠ id) (h : headOf s e = some k) :
    headOf (endJob id why s) e = some k := by
  cases hj : findJob s id with
  | none => rwa [endJob_dead hj]
  | some j =>
    unfold headOf at h ⊢
    obtain ⟨rest, hq⟩ := List.head?_eq_some_iff.1 h
    rw [endJob_queues_get hj, hq, List.filter_cons_of_pos (by simpa using hk), List.head?_cons]

theorem pair_sublist_filter {p : Nat → Bool} {a b : Nat} {l l' : List Nat}
    (h : [a, b].Sublist l → a ∈ l' → b ∈ l' → [a, b].Sublist l') (hab : [a, b].Sublist (l.filter p))
    (ha : a ∈ l'.filter p) (hb : b ∈ l'.filter p) : [a, b].Sublist (l'.filter p) := by
  obtain ⟨ha', hpa⟩ := List.mem_filter.1 ha
  obtain ⟨hb', hpb⟩ := List.mem_filter.1 hb
  have hsub := (h (hab.trans List.filter_sublist) ha' hb').filter p
  rwa [List.filter_cons_of_pos hpa, List.filter_cons_of_pos hpb, List.filter_nil] at hsub

theorem mem_endJob_jobs {why : JobOutcome} {x : Job} (hj : findJob s id = some j) :
    x ∈ (endJob id why s).ems.jobs ↔ x ∈ s.ems.jobs ∧ x.id ≠ id := by
  rw [endJob_jobs hj, List.mem_filter, bne_iff_ne]

theorem mem_endJob_queue {why : JobOutcome} {e : Emitter} {k : Nat} (hj : findJob s id = some j) :
    k ∈ (endJob id why s).ems.queues.get e ↔ k ∈ s.ems.queues.get e ∧ k ≠ id := by
  rw [endJob_queues_get hj, List.mem_filter, bne_iff_ne]

theorem endJob_bounded (h : QueuesBounded s) (hj : findJob s id = some j) (why : JobOutcome) :
    QueuesBounded (endJob id why s) := by
  obtain ⟨hjobs, hlengths, -, hlast⟩ := h
  refine ⟨?_, fun e => ?_, ?_, ?_⟩
  · rw [endJob_jobs hj]
    exact (List.length_filter_le ..).trans hjobs
  · rw [endJob_queues_get hj]
    exact (List.length_filter_le ..).trans (hlengths e)
  · rw [endJob_ems hj]
    exact length_pushRecent_le ..
  · rw [endJob_ems hj]
    exact hlast

/-- The other jobs keep their ids, which the ended one does not carry, and their queues. -/
theorem endJob_queued (h : JobsQueued s) (hj : findJob s id = some j) (why : JobOutcome) :
    JobsQueued (endJob id why s) := by
  obtain ⟨hnodup, hrange, hqueues, hmem, hhead⟩ := h
  refine ⟨?_, fun x hx => ?_, fun e => ?_, fun e k => ?_, fun x hx hs e he => ?_⟩
  · rw [endJob_jobs hj]
    exact hnodup.sublist (List.filter_sublist.map _)
  · obtain ⟨hx, hid⟩ := (mem_endJob_jobs hj).1 hx
    obtain ⟨hmin, hmax, hunlisted⟩ := hrange x hx
    refine ⟨hmin, hmax, fun r hr => ?_⟩
    rw [endJob_ems hj] at hr
    rcases mem_pushRecent hr with hr | rfl
    · exact hunlisted r hr
    · exact Ne.symm hid
  · rw [endJob_queues_get hj]
    exact (hqueues e).filter _
  · rw [mem_endJob_queue hj, hmem]
    constructor
    · rintro ⟨⟨x, hx, rfl, he⟩, hid⟩
      exact ⟨x, (mem_endJob_jobs hj).2 ⟨hx, hid⟩, rfl, he⟩
    · rintro ⟨x, hx, rfl, he⟩
      obtain ⟨hx, hid⟩ := (mem_endJob_jobs hj).1 hx
      exact ⟨⟨x, hx, rfl, he⟩, hid⟩
  · obtain ⟨hx, hid⟩ := (mem_endJob_jobs hj).1 hx
    exact headOf_endJob hid (hhead x hx hs e he)

/-- A job that a route admitted takes the links to it along; no link names a job of another origin (R151). -/
theorem endJob_links (h : LinksNameHolds s) (hj : findJob s id = some j) (why : JobOutcome) :
    LinksNameHolds (endJob id why s) := by
  intro i r k hr hlink
  have hlinked {q : Route} (hq : (i, q) ∈ s.routes) (hl : q.link = some k) (hid : k ≠ id) :
      ∃ x, findJob (endJob id why s) k = some x ∧ x.isHold = true ∧ x.origin = .route i := by
    rw [findJob_endJob_of_ne _ _ hid]
    exact h i q k hq hl
  cases ho : j.origin with
  | host tag =>
    rw [endJob_routes_of_host hj ho] at hr
    refine hlinked hr hlink ?_
    rintro rfl
    obtain ⟨x, hx, -, hxo⟩ := h i r _ hr hlink
    rw [hj] at hx
    cases hx
    simp [ho] at hxo
  | route i' =>
    rw [endJob_routes_of_route hj ho] at hr
    obtain ⟨hne, q, hq, hnone | hsame⟩ := mem_clearLinks hr
    · simp [hlink] at hnone
    · exact hlinked hq (hsame.symm.trans hlink) (by rintro rfl; exact hne hlink)

theorem endJob_ordered (h : QueuesOrdered s) (hj : findJob s id = some j) (why : JobOutcome) :
    QueuesOrdered (endJob id why s) := by
  intro e e' a b hab ha hb
  rw [endJob_queues_get hj] at hab ha hb ⊢
  exact pair_sublist_filter (h e e' a b) hab ha hb

theorem JobsSound.endJob (h : JobsSound s) (id : Nat) (why : JobOutcome) : JobsSound (endJob id why s) := by
  cases hj : findJob s id with
  | none => rwa [endJob_dead hj]
  | some j =>
    exact ⟨endJob_bounded h.bounded hj why, endJob_queued h.queued hj why, endJob_ordered h.ordered hj why,
      endJob_links h.links hj why⟩

theorem isEnding_endJob {why : JobOutcome} {k : Nat} (hk : k ≠ id) (h : isEnding s k) :
    isEnding (endJob id why s) k := by
  obtain ⟨j, w, hj, hs⟩ := h
  exact ⟨j, w, (findJob_endJob_of_ne why s hk).trans hj, hs⟩

theorem modeBut_congr {t : State} {e : Emitter} (h : (t.channels.get e).mode = (s.channels.get e).mode) :
    modeBut o t e = modeBut o s e := by
  rw [modeBut, modeBut, h]

theorem endJob_mode (why : JobOutcome) (s : State) (e : Emitter) :
    ((endJob id why s).channels.get e).mode = (s.channels.get e).mode := by
  cases hj : findJob s id with
  | none => rw [endJob_dead hj]
  | some j =>
    rw [endJob_channels_get hj]
    split <;> rfl

theorem QueuesSoundBut.endJob (h : QueuesSoundBut o s) (id : Nat) (why : JobOutcome) :
    QueuesSoundBut o (endJob id why s) where
  toJobsSound := h.toJobsSound.endJob id why
  follows e := by
    cases hj : findJob s id with
    | none => rw [endJob_dead hj]; exact h.follows e
    | some j =>
      have hfollows := h.follows e
      rw [modeBut_congr (endJob_mode why s e)]
      refine ⟨fun hoff => ?_, fun k hk id' hid' => ?_, fun hs => ?_⟩
      · rw [endJob_queues_get hj, hfollows.ofOff hoff, List.filter_nil]
      · rw [mem_endJob_queue hj] at hid'
        obtain ⟨hmem, hne⟩ := hid'
        exact isEnding_endJob hne (hfollows.ofFault k hk id' hmem)
      · rw [endJob_channels_get hj] at hs
        split at hs
        · cases hs
        · next hhead =>
          obtain ⟨k, hk, hend⟩ := hfollows.ofStopped hs
          have hne : k ≠ id := by rintro rfl; exact hhead hk
          exact ⟨k, headOf_endJob hne hk, isEnding_endJob hne hend⟩

end

end Sys2Proof.Machine
end

section
/-! The operations of the scheduler and the routes keep the queues and the jobs they hold (R107 to R121, R135, R149 to R151). -/

namespace Sys2Proof.Machine

/-- An operation keeps the invariant of the queues. -/
def KeepsQueues (s t : State) : Prop := QueuesSound s → QueuesSound t

theorem KeepsQueues.refl (s : State) : KeepsQueues s s := id

theorem KeepsQueues.trans {s t u : State} (h : KeepsQueues s t) (k : KeepsQueues t u) : KeepsQueues s u := k ∘ h

theorem KeepsQueues.ite {s t u : State} {c : Prop} [Decidable c] (h : KeepsQueues s t) (k : KeepsQueues s u) :
    KeepsQueues s (if c then t else u) := by
  split
  · exact h
  · exact k

theorem KeepsQueues.foldl {β : Type} {f : State → β → State} (h : ∀ s x, KeepsQueues s (f s x)) (l : List β) (s : State) :
    KeepsQueues s (l.foldl f s) := by
  induction l generalizing s with
  | nil => exact .refl s
  | cons x l ih => exact (h s x).trans (ih (f s x))

theorem BesideQueues.keeps {s t : State} (h : BesideQueues s t) : KeepsQueues s t := fun hs => hs.beside h

/-- The blocks that have no part in the queues: all but the scheduler, the routes and the channels. -/
def Blocks.besideQueues : Blocks :=
  { now := true, draws := true, pins := true, opc := true, link := true, lib := true, cap := true, lrn := true, rcg := true,
    pending := true }

theorem KeepsQueues.of_changes {s t : State} (h : Changes Blocks.besideQueues s t) : KeepsQueues s t :=
  BesideQueues.keeps ⟨h.ems rfl, h.routes rfl, fun e => by rw [h.channels rfl], fun e => by rw [h.channels rfl]⟩

/-! ### Steps, activation and the examination of the queues (R109 to R111, R132) -/

section
variable {s : State} {id : Nat} {o : Option Emitter}

theorem QueuesSoundBut.startStep (h : QueuesSoundBut o s) (id k moment : Nat) (afterSend : Bool) :
    QueuesSoundBut o (startStep id k moment afterSend s) := by
  have hsame {f : Job → Job} (hf : KeepsAdmission f) (hstate : ∀ j, (f j).state = j.state) :
      QueuesSoundBut o (Machine.updateJob s id f) := h.updateJob_sameState hf hstate
  unfold Machine.startStep
  split
  · exact h
  · split
    · split
      · exact h.endJob id _
      · exact hsame (fun _ => rfl) fun _ => rfl
      · split
        · refine QueuesSoundBut.endJob ?_ id _
          exact hsame (fun _ => rfl) fun _ => rfl
        · exact hsame (fun _ => rfl) fun _ => rfl
    · exact h

theorem not_ending_of_queued {j : Job} (hj : findJob s id = some j) (hq : j.state = .queued) :
    ¬isEnding s id := by
  rintro ⟨x, why, hx, hs⟩
  rw [hj] at hx
  cases hx
  simp [hq] at hs

/-- A QUEUED job that heads its queues leaves QUEUED. -/
theorem QueuesSoundBut.updateJob_activates (h : QueuesSoundBut o s) {j : Job} (hj : findJob s id = some j)
    (hq : j.state = .queued) (hheads : ∀ e, hasEmitter j.mask e = true → headOf s e = some id) {f : Job → Job}
    (hf : KeepsAdmission f) : QueuesSoundBut o (Machine.updateJob s id f) := by
  refine ⟨h.toJobsSound.updateJob hf fun x hx _ e he => ?_, fun e => (h.follows e).of_same rfl fun k hk => ?_⟩
  · rw [hj] at hx
    cases hx
    exact hheads e he
  · have hne : k ≠ id := by rintro rfl; exact not_ending_of_queued hj hq hk
    obtain ⟨x, why, hx, hs⟩ := hk
    exact ⟨x, why, (findJob_updateJob_of_ne hf.id s hne).trans hx, hs⟩

theorem QueuesSoundBut.activate (h : QueuesSoundBut o s) (hcan : canActivate s id = true) :
    QueuesSoundBut o (activate id s) := by
  obtain ⟨j, hj, hq, hheads⟩ := canActivate_iff.1 hcan
  have hactivates {f : Job → Job} (hf : KeepsAdmission f) : QueuesSoundBut o (Machine.updateJob s id f) :=
    h.updateJob_activates hj hq hheads hf
  have hslot (slot : Nat) (limit : Option Nat) : QueuesSoundBut o (activateSlot id slot limit s) := by
    unfold activateSlot
    split
    · exact h.endJob id _
    · exact hactivates fun _ => rfl
  cases hk : j.kind with
  | send slot n => rw [activate_send hj hk]; exact hslot slot none
  | hold slot n => rw [activate_hold hj hk]; exact hslot slot (some n)
  | sequence steps =>
    rw [activate_sequence hj hk]
    refine QueuesSoundBut.startStep ?_ _ _ _ _
    exact hactivates fun _ => rfl

theorem QueuesSoundBut.examineFor (h : QueuesSoundBut o s) (n : Nat) : QueuesSoundBut o (examineFor n s) := by
  induction n generalizing s with
  | zero => exact h
  | succ n ih =>
    cases hf : firstActivatable s with
    | none => rwa [examineFor_of_none hf]
    | some id =>
      obtain ⟨j, e, hj, hq, -, hheads⟩ := firstActivatable_eq_some hf
      rw [examineFor_succ_of_some hf]
      exact ih (h.activate (canActivate_iff.2 ⟨j, hj, hq, hheads⟩))

theorem examine_keepsQueues (s : State) : KeepsQueues s (examine s) := fun h => h.examineFor _

/-! ### The entry to ENDING (R112, R114, R115) -/

/-- An entry to ENDING marks the job and ends it in the same step, or leaves it at that. -/
theorem enterEnding_cases {j : Job} (hj : findJob s id = some j) (why : JobOutcome) :
    enterEnding id why s = updateJob s id (fun k => { k with state := .ending why }) ∨
      enterEnding id why s = endJob id why (updateJob s id fun k => { k with state := .ending why }) := by
  simp only [enterEnding, hj]
  exact (ite_eq_or_eq _ _ _).symm

theorem QueuesSoundBut.enterEnding (h : QueuesSoundBut o s) {j : Job} (hj : findJob s id = some j)
    (hs : j.state = .active) (why : JobOutcome) : QueuesSoundBut o (enterEnding id why s) := by
  have hmarked : QueuesSoundBut o (Machine.updateJob s id fun k => { k with state := .ending why }) := by
    refine h.updateJob (fun _ => rfl) (fun x hx _ e he => ?_) fun _ _ _ => ⟨why, rfl⟩
    rw [hj] at hx
    cases hx
    exact h.heads hj (by simp [hs]) he
  rcases enterEnding_cases hj why with heq | heq <;> rw [heq]
  · exact hmarked
  · exact hmarked.endJob id why

theorem cancelJob_keepsQueues (id : Nat) (s : State) : KeepsQueues s (cancelJob id s) := fun h => by
  unfold cancelJob
  split
  · exact h
  · next j hj =>
    split
    · exact h.endJob id _
    · next hs => exact h.enterEnding hj hs _
    · exact h

theorem releaseJob_keepsQueues (id : Nat) (s : State) : KeepsQueues s (releaseJob id s) := fun h => by
  unfold releaseJob
  split
  · exact h
  · next j hj =>
    split
    · split
      · exact h.updateJob_sameState (fun _ => rfl) fun _ => rfl
      · next hs => exact h.enterEnding hj hs _
      · exact h
    · exact h

/-! ### The QUEUED jobs of a queue fail (R118, R120) -/

theorem QueuesSoundBut.foldl_endJob (why : JobOutcome) (ids : List Nat) (h : QueuesSoundBut o s) :
    QueuesSoundBut o (ids.foldl (fun s id => Machine.endJob id why s) s) := by
  induction ids generalizing s with
  | nil => exact h
  | cons id ids ih => exact ih (h.endJob id why)

theorem QueuesSoundBut.failQueued (h : QueuesSoundBut o s) (e : Emitter) (why : JobOutcome) :
    QueuesSoundBut o (failQueued e why s) := h.foldl_endJob why _

/-- What some ends of jobs leave in a queue was there before, is none of those jobs, and is live as it was. -/
theorem JobsSound.mem_foldl_endJob (h : JobsSound s) (why : JobOutcome) {ids : List Nat} {e : Emitter} {k : Nat}
    (hk : k ∈ (ids.foldl (fun s id => Machine.endJob id why s) s).ems.queues.get e) :
    k ∈ s.ems.queues.get e ∧ k ∉ ids ∧
      findJob (ids.foldl (fun s id => Machine.endJob id why s) s) k = findJob s k := by
  induction ids generalizing s with
  | nil => exact ⟨hk, by simp, rfl⟩
  | cons id ids ih =>
    obtain ⟨hmem, hids, hfind⟩ := ih (h.endJob id why) hk
    cases hj : findJob s id with
    | none =>
      rw [endJob_dead hj] at hmem
      have hne : k ≠ id := by
        rintro rfl
        obtain ⟨j, hj', -⟩ := h.mem_queue_iff.1 hmem
        simp [hj] at hj'
      exact ⟨hmem, by simp [hne, hids], hfind.trans (by rw [endJob_dead hj])⟩
    | some j =>
      rw [mem_endJob_queue hj] at hmem
      obtain ⟨hmem, hne⟩ := hmem
      exact ⟨hmem, by simp [hne, hids], hfind.trans (findJob_endJob_of_ne why s hne)⟩

/-- What is left of the queue are the jobs that were not QUEUED. -/
theorem JobsSound.mem_failQueued (h : JobsSound s) {why : JobOutcome} {e : Emitter} {k : Nat}
    (hk : k ∈ (Machine.failQueued e why s).ems.queues.get e) :
    k ∈ s.ems.queues.get e ∧
      ∃ j, findJob (Machine.failQueued e why s) k = some j ∧ findJob s k = some j ∧ j.state ≠ .queued := by
  obtain ⟨hmem, hnot, hfind⟩ := h.mem_foldl_endJob why hk
  obtain ⟨j, hj, -⟩ := h.mem_queue_iff.1 hmem
  refine ⟨hmem, j, hfind.trans hj, hj, fun hq => hnot ?_⟩
  rw [List.mem_filter]
  exact ⟨hmem, by simp [isQueued, hj, hq]⟩

theorem failQueued_mode (e e' : Emitter) (why : JobOutcome) (s : State) :
    ((failQueued e why s).channels.get e').mode = (s.channels.get e').mode := by
  unfold failQueued
  generalize (s.ems.queues.get e).filter (isQueued s) = ids
  induction ids generalizing s with
  | nil => rfl
  | cons id ids ih => exact (ih _).trans (endJob_mode why s e')

/-! ### The job at the head of a faulted channel (R120) -/

theorem enterEnding_mode {j : Job} (hj : findJob s id = some j) (why : JobOutcome) (e : Emitter) :
    ((enterEnding id why s).channels.get e).mode = (s.channels.get e).mode := by
  rcases enterEnding_cases hj why with heq | heq <;> rw [heq]
  · rfl
  · exact endJob_mode why _ e

/-- What a drive fault does to the head of the queue: nothing, an entry to ENDING, or the end of a job in ENDING. -/
theorem faultHead_cases (e : Emitter) (s : State) :
    (faultHead e s = s ∧ ∀ id j, headOf s e = some id → findJob s id = some j → j.state ≠ .active) ∨
    (∃ id j, headOf s e = some id ∧ findJob s id = some j ∧ j.state = .active ∧
      faultHead e s = enterEnding id .failedFault s) ∨
    ∃ id j why, headOf s e = some id ∧ findJob s id = some j ∧ j.state = .ending why ∧ faultHead e s = endJob id why s := by
  cases hhead : headOf s e with
  | none => exact .inl ⟨by simp only [faultHead, hhead], by simp⟩
  | some id =>
    cases hj : findJob s id with
    | none => exact .inl ⟨by simp only [faultHead, hhead, hj], by rintro _ j ⟨⟩ hj'; simp [hj] at hj'⟩
    | some j =>
      have hidle (h : faultHead e s = s) (hs : j.state ≠ .active) :
          faultHead e s = s ∧ ∀ k x, some id = some k → findJob s k = some x → x.state ≠ .active :=
        ⟨h, by rintro _ x ⟨⟩ hx; obtain rfl : j = x := by simpa [hj] using hx
               exact hs⟩
      cases hs : j.state with
      | queued => exact .inl (hidle (by simp only [faultHead, hhead, hj, hs]) (by simp [hs]))
      | active => exact .inr (.inl ⟨id, j, rfl, hj, hs, by simp only [faultHead, hhead, hj, hs]⟩)
      | ending why =>
        by_cases hpart : (participants s j).isEmpty = true
        · exact .inr (.inr ⟨id, j, why, rfl, hj, hs, by simp only [faultHead, hhead, hj, hs, hpart, if_true]⟩)
        · exact .inl (hidle (by simp only [faultHead, hhead, hj, hs, hpart]; rfl) (by simp [hs]))

theorem QueuesSoundBut.faultHead (h : QueuesSoundBut o s) (e : Emitter) : QueuesSoundBut o (faultHead e s) := by
  rcases faultHead_cases e s with ⟨heq, -⟩ | ⟨id, j, -, hj, hs, heq⟩ | ⟨id, j, why, -, -, -, heq⟩ <;> rw [heq]
  · exact h
  · exact h.enterEnding hj hs _
  · exact h.endJob id why

theorem faultHead_mode (e e' : Emitter) (s : State) :
    ((faultHead e s).channels.get e').mode = (s.channels.get e').mode := by
  rcases faultHead_cases e s with ⟨heq, -⟩ | ⟨id, j, -, hj, hs, heq⟩ | ⟨id, j, why, -, -, -, heq⟩ <;> rw [heq]
  · exact enterEnding_mode hj _ e'
  · exact endJob_mode why s e'

theorem not_mem_queue_endJob (h : JobsSound s) (id : Nat) (why : JobOutcome) (e : Emitter) :
    id ∉ (endJob id why s).ems.queues.get e := by
  cases hj : findJob s id with
  | none =>
    rw [endJob_dead hj]
    intro hmem
    obtain ⟨j, hj', -⟩ := h.mem_queue_iff.1 hmem
    simp [hj] at hj'
  | some j =>
    rw [endJob_queues_get hj]
    simp

end

end Sys2Proof.Machine
end

section
/-! The channels, the admission of a job and the mirror links (R106, R107, R118 to R121, R135, R138, R149 to R151): what they
make of the queues. -/

namespace Sys2Proof.Machine

/-! ### A change of the channels -/

section
variable {s : State} {e : Emitter} {o : Option Emitter}

/-- Whatever else a channel records, its queue has to follow its mode and its STOPPED phase. -/
theorem QueuesSoundBut.updateChannel (h : QueuesSoundBut o s) {f : Channel → Channel}
    (hfollows : FollowsAs s e (f (s.channels.get e)).mode (f (s.channels.get e)).stopped) :
    QueuesSoundBut o (updateChannel s e f) where
  toJobsSound := h.toJobsSound.of_same rfl rfl
  follows e' := by
    have hsame {mode : ChannelMode} {stopped : Bool} (hf : FollowsAs s e' mode stopped) :
        FollowsAs (Machine.updateChannel s e f) e' mode stopped := hf.of_same rfl fun _ => id
    refine hsame ?_
    by_cases he : e' = e
    · subst he
      rw [modeBut, updateChannel_get, if_pos rfl]
      split
      · exact ⟨by simp, by simp, hfollows.ofStopped⟩
      · exact hfollows
    · rw [modeBut, updateChannel_get, if_neg he]
      exact h.follows e'

/-- A change of a channel that its queue does not have to follow. -/
def KeepsMode (f : Channel → Channel) : Prop := ∀ c, (f c).mode = c.mode ∧ (f c).stopped = c.stopped

theorem updateChannel_beside_queues {f : Channel → Channel} (hf : KeepsMode f) : BesideQueues s (updateChannel s e f) where
  ems := rfl
  routes := rfl
  mode e' := by rw [updateChannel_get]; split <;> simp [hf _]
  stopped e' := by rw [updateChannel_get]; split <;> simp [hf _]

theorem updateParticipants_beside_queues {j : Job} {f : Channel → Channel} (hf : KeepsMode f) :
    BesideQueues s (updateParticipants j f s) where
  ems := rfl
  routes := rfl
  mode e' := by rw [updateParticipants, State.withChannels_channels, PerEmitter.get_mapAll]; split <;> simp [hf _]
  stopped e' := by rw [updateParticipants, State.withChannels_channels, PerEmitter.get_mapAll]; split <;> simp [hf _]

/-! ### A drive fault (R120, R138) -/

/-- A channel that has just gone into FAULT, its jobs not yet failed. -/
theorem QueuesSoundBut.faults (h : QueuesSound s) (kind : FaultKind) (inFrame : Bool) (gap now : Nat) :
    QueuesSoundBut (some e) (Machine.updateChannel s e fun c => c.faults kind inFrame gap now) where
  toJobsSound := h.toJobsSound.of_same rfl rfl
  follows e' := by
    have hfollows := h.follows e'
    refine FollowsAs.of_same (s := s) ?_ rfl fun _ => id
    by_cases he : e' = e
    · subst he
      rw [modeBut, if_pos rfl, updateChannel_get, if_pos rfl]
      exact ⟨by simp, by simp, hfollows.ofStopped⟩
    · have hne : some e ≠ some e' := by simpa using Ne.symm he
      rw [modeBut, if_neg hne, updateChannel_get, if_neg he]
      exact hfollows

/-- A fault has been taken once the queue holds no job but one in ENDING. -/
theorem QueuesSoundBut.taken {kind : FaultKind} (h : QueuesSoundBut (some e) s)
    (hmode : (s.channels.get e).mode = .fault kind) (hending : ∀ id ∈ s.ems.queues.get e, isEnding s id) :
    QueuesSound s where
  toJobsSound := h.toJobsSound
  follows e' := by
    have hfollows := h.follows e'
    by_cases he : e' = e
    · subst he
      exact ⟨fun hoff => by simp [modeBut, hmode] at hoff, fun _ _ => hending, hfollows.ofStopped⟩
    · have hne : some e ≠ some e' := by simpa using Ne.symm he
      rwa [modeBut, if_neg hne] at hfollows

/-- No job of an emitter's queue is QUEUED. -/
def NoneQueued (s : State) (e : Emitter) : Prop :=
  ∀ k ∈ s.ems.queues.get e, ∃ j, findJob s k = some j ∧ j.state ≠ .queued

/-- A queue without QUEUED jobs holds its head alone (R103). -/
theorem NoneQueued.headOf_of_mem (hnone : NoneQueued s e) (h : JobsSound s) {k : Nat} (hk : k ∈ s.ems.queues.get e) :
    headOf s e = some k := by
  obtain ⟨j, hj, hs⟩ := hnone k hk
  obtain ⟨j', hj', he⟩ := h.mem_queue_iff.1 hk
  obtain rfl : j = j' := Option.some.inj (hj.symm.trans hj')
  exact h.heads hj hs he

/-- With the end of the head, a queue without QUEUED jobs is empty. -/
theorem NoneQueued.empty_of_endJob (hnone : NoneQueued s e) (h : JobsSound s) {id : Nat} (hhead : headOf s e = some id)
    {t : State} (ht : JobsSound t) (hqueues : t.ems.queues = s.ems.queues) (why : JobOutcome) :
    (Machine.endJob id why t).ems.queues.get e = [] := by
  refine List.eq_nil_iff_forall_not_mem.2 fun k hk => ?_
  have hmem : k ∈ s.ems.queues.get e := by
    rw [← hqueues]
    cases hj : findJob t id with
    | none => rwa [endJob_dead hj] at hk
    | some j => exact ((mem_endJob_queue hj).1 hk).1
  obtain rfl : id = k := Option.some.inj (hhead.symm.trans (hnone.headOf_of_mem h hmem))
  exact not_mem_queue_endJob ht id why e hk

/-- Where no job of the queue is QUEUED, what a drive fault leaves of its one job is in ENDING. -/
theorem QueuesSoundBut.isEnding_faultHead (h : QueuesSoundBut o s) (hnone : NoneQueued s e) :
    ∀ k ∈ (Machine.faultHead e s).ems.queues.get e, isEnding (Machine.faultHead e s) k := by
  have hsound := h.toJobsSound
  rcases faultHead_cases e s with ⟨heq, hidle⟩ | ⟨id, j, hhead, hj, hs, heq⟩ | ⟨id, j, why, hhead, -, -, heq⟩ <;> rw [heq]
  · intro k hk
    obtain ⟨j, hj, hs⟩ := hnone k hk
    have hactive := hidle k j (hnone.headOf_of_mem hsound hk) hj
    cases hstate : j.state with
    | queued => exact absurd hstate hs
    | active => exact absurd hstate hactive
    | ending why => exact ⟨j, why, hj, hstate⟩
  · rcases enterEnding_cases hj .failedFault with hmarked | hended
    · rw [hmarked]
      intro k hk
      obtain rfl : id = k := Option.some.inj (hhead.symm.trans (hnone.headOf_of_mem hsound hk))
      exact ⟨_, .failedFault, findJob_updateJob_same (by intro _; rfl) hj, rfl⟩
    · have hmarked : JobsSound (Machine.updateJob s id fun k => { k with state := .ending .failedFault }) := by
        refine hsound.updateJob (fun _ => rfl) fun x hx _ e' he' => ?_
        obtain rfl : j = x := Option.some.inj (hj.symm.trans hx)
        exact h.heads hj (by simp [hs]) he'
      rw [hended, hnone.empty_of_endJob hsound hhead hmarked rfl]
      simp
  · rw [hnone.empty_of_endJob hsound hhead hsound rfl]
    simp

theorem notify_beside_queues (n : Notification) (s : State) : BesideQueues s (notify n s) := ⟨rfl, rfl, fun _ => rfl, fun _ => rfl⟩

theorem driveFault_keepsQueues (e : Emitter) (kind : FaultKind) (s : State) : KeepsQueues s (driveFault e kind s) := by
  intro h
  unfold driveFault
  extract_lets faulted told
  have htold : QueuesSoundBut (some e) told := (h.faults kind _ _ _).beside (notify_beside_queues _ faulted)
  have hfailed := htold.failQueued e .failedFault
  refine QueuesSoundBut.examineFor ((hfailed.faultHead e).taken (kind := kind) ?_ (hfailed.isEnding_faultHead fun k hk => ?_)) _
  · rw [faultHead_mode, failQueued_mode]
    simp [told, faulted, notify, Channel.faults]
  · obtain ⟨-, j, hj, -, hs⟩ := htold.toJobsSound.mem_failQueued hk
    exact ⟨j, hj, hs⟩

end

/-! ### An admission (R106, R107) -/

section
variable {s : State} {mask : Mask} {origin : Origin} {kind : JobKind} {report : Bool}

/-- What an admission that nothing refuses finds. -/
theorem JobsSound.admissible (h : JobsSound s) (hadm : admissionRefusal s mask = none) :
    ((∀ e, hasEmitter mask e = true → (s.channels.get e).mode = .on) ∧ s.ems.jobs.length < maxJobs ∧
      ∀ e, hasEmitter mask e = true → (s.ems.queues.get e).length < maxQueue) ∧
    (1 ≤ nextId s.ems ∧ nextId s.ems ≤ 255) ∧ (∀ j ∈ s.ems.jobs, j.id ≠ nextId s.ems) ∧
      ∀ r ∈ s.ems.recent, r.id ≠ nextId s.ems := by
  obtain ⟨hjobs, -, hrecent, hlast⟩ := h.bounded
  obtain ⟨hon, hroom, hqueues⟩ := admissionRefusal_eq_none.1 hadm
  refine ⟨⟨emitterRefusal_eq_none_iff.1 hon, hroom, fun e he => ?_⟩, nextId_fresh hjobs hrecent hlast⟩
  by_contra hfull
  exact hqueues ⟨e, he, not_lt.1 hfull⟩

theorem admitJob_queues_get (e : Emitter) :
    (admitJob origin kind mask report s).ems.queues.get e =
      if hasEmitter mask e then s.ems.queues.get e ++ [nextId s.ems] else s.ems.queues.get e := by
  exact PerEmitter.get_mapAll ..

theorem findJob_admitJob_of_some {k : Nat} {j : Job} (h : findJob s k = some j) :
    findJob (admitJob origin kind mask report s) k = some j := by
  unfold findJob admitJob at *
  simp [h]

theorem headOf_admitJob {e : Emitter} {k : Nat} (h : headOf s e = some k) :
    headOf (admitJob origin kind mask report s) e = some k := by
  unfold headOf at *
  rw [admitJob_queues_get]
  split
  · rw [List.head?_append, h]
    rfl
  · exact h

/-- Two ids in a queue with one more at its tail: both were there, or the second is the new one. -/
theorem pair_sublist_append {l : List Nat} {a b id : Nat} (ha : a ≠ id) :
    [a, b].Sublist (l ++ [id]) ↔ [a, b].Sublist l ∨ (a ∈ l ∧ b = id) := by
  constructor
  · intro h
    obtain ⟨l₁, l₂, heq, h₁, h₂⟩ := List.sublist_append_iff.1 h
    match l₁, heq with
    | [], heq => rw [List.nil_append] at heq; subst heq; simpa using h₂.length_le
    | [_], heq =>
      obtain ⟨rfl, rfl⟩ : a = _ ∧ [b] = l₂ := by simpa using heq
      exact .inr ⟨by simpa using h₁, by simpa using h₂⟩
    | [_, _], heq =>
      obtain ⟨rfl, rfl, -⟩ : a = _ ∧ b = _ ∧ [] = l₂ := by simpa using heq
      exact .inl h₁
    | _ :: _ :: _ :: _, heq => simp at heq
  · rintro (h | ⟨h, rfl⟩)
    · exact h.trans (List.sublist_append_left ..)
    · exact (List.singleton_sublist.2 h).append (.refl [b])

theorem mem_admitJob_jobs {x : Job} :
    x ∈ (admitJob origin kind mask report s).ems.jobs ↔
      x ∈ s.ems.jobs ∨ x = newJob (nextId s.ems) origin kind mask report := by
  simp [admitJob]

theorem mem_admitJob_queue {e : Emitter} {k : Nat} :
    k ∈ (admitJob origin kind mask report s).ems.queues.get e ↔
      k ∈ s.ems.queues.get e ∨ (k = nextId s.ems ∧ hasEmitter mask e = true) := by
  rw [admitJob_queues_get]
  by_cases he : hasEmitter mask e = true <;> simp [he]

/-- A new id stands in no queue. -/
theorem JobsSound.not_mem_queue_nextId (h : JobsSound s) (hadm : admissionRefusal s mask = none) (e : Emitter) :
    nextId s.ems ∉ s.ems.queues.get e := by
  intro hmem
  obtain ⟨-, -, hfresh, -⟩ := h.admissible hadm
  obtain ⟨j, hj, -⟩ := h.mem_queue_iff.1 hmem
  exact hfresh j (List.mem_of_find?_eq_some hj) (id_of_findJob hj)

/-- An admission puts the new job at the tail of its queues, so no two jobs change places (R102). -/
theorem JobsSound.admitJob_ordered (h : JobsSound s) (hadm : admissionRefusal s mask = none) :
    QueuesOrdered (Machine.admitJob origin kind mask report s) := by
  intro e e' a b hab ha hb
  have hnew := h.not_mem_queue_nextId hadm
  have hnodup (e : Emitter) : a = nextId s.ems → ¬[a, b].Sublist (s.ems.queues.get e ++ [nextId s.ems]) := by
    rintro rfl hsub
    obtain ⟨-, -, hqueues, -⟩ := h.queued
    obtain ⟨l₁, l₂, heq, h₁, h₂⟩ := List.sublist_append_iff.1 hsub
    match l₁, heq with
    | [], heq => rw [List.nil_append] at heq; subst heq; simpa using h₂.length_le
    | x :: _, heq =>
      obtain ⟨rfl, -⟩ := List.cons.inj heq
      exact hnew e (h₁.subset (by simp))
  rw [mem_admitJob_queue] at ha hb
  rw [admitJob_queues_get] at hab ⊢
  by_cases hid : a = nextId s.ems
  · split at hab
    · exact absurd hab (hnodup e hid)
    · exact absurd (hab.subset (by simp)) (hid ▸ hnew e)
  · have ha' : a ∈ s.ems.queues.get e' := ha.resolve_right fun h => hid h.1
    have hold (hsub : [a, b].Sublist (s.ems.queues.get e)) : [a, b].Sublist (s.ems.queues.get e') := by
      have hbid : b ≠ nextId s.ems := by rintro rfl; exact hnew e (hsub.subset (by simp))
      exact h.ordered e e' a b hsub ha' (hb.resolve_right fun h => hbid h.1)
    have htail (hsub : [a, b].Sublist (s.ems.queues.get e)) :
        [a, b].Sublist (if hasEmitter mask e' then s.ems.queues.get e' ++ [nextId s.ems] else s.ems.queues.get e') := by
      split
      · exact (hold hsub).trans (List.sublist_append_left ..)
      · exact hold hsub
    split at hab
    · rcases (pair_sublist_append hid).1 hab with hsub | ⟨-, rfl⟩
      · exact htail hsub
      · obtain ⟨-, he'⟩ := hb.resolve_left (hnew e')
        rw [if_pos he']
        exact (pair_sublist_append hid).2 (.inr ⟨ha', rfl⟩)
    · exact htail hab

theorem JobsSound.admitJob (h : JobsSound s) (hadm : admissionRefusal s mask = none) :
    JobsSound (admitJob origin kind mask report s) := by
  obtain ⟨⟨-, hroom, hspace⟩, ⟨hmin, hmax⟩, hfresh, hunlisted⟩ := h.admissible hadm
  obtain ⟨hjobs, hlengths, hrecent, -⟩ := h.bounded
  obtain ⟨hnodup, hrange, hqueues, hmem, hheads⟩ := h.queued
  refine ⟨⟨?_, fun e => ?_, hrecent, hmax⟩, ⟨?_, fun x hx => ?_, fun e => ?_, fun e k => ?_, fun x hx hs e he => ?_⟩,
    h.admitJob_ordered hadm, fun i r k hr hlink => ?_⟩
  · simpa [Machine.admitJob] using hroom
  · rw [admitJob_queues_get]
    split
    · next he => simpa using hspace e he
    · exact hlengths e
  · simp only [Machine.admitJob, State.withEms_ems, List.map_append, List.map_cons, List.map_nil]
    refine List.nodup_append_comm.1 (List.nodup_cons.2 ⟨fun hid => ?_, hnodup⟩)
    obtain ⟨j, hj, hid⟩ := List.mem_map.1 hid
    exact hfresh j hj hid
  · rcases mem_admitJob_jobs.1 hx with hx | rfl
    · exact hrange x hx
    · exact ⟨hmin, hmax, hunlisted⟩
  · rw [admitJob_queues_get]
    split
    · exact List.nodup_append_comm.1 (List.nodup_cons.2 ⟨h.not_mem_queue_nextId hadm e, hqueues e⟩)
    · exact hqueues e
  · rw [mem_admitJob_queue, hmem]
    constructor
    · rintro (⟨j, hj, hid, he⟩ | ⟨rfl, he⟩)
      · exact ⟨j, mem_admitJob_jobs.2 (.inl hj), hid, he⟩
      · exact ⟨_, mem_admitJob_jobs.2 (.inr rfl), rfl, he⟩
    · rintro ⟨x, hx, hid, he⟩
      rcases mem_admitJob_jobs.1 hx with hx | rfl
      · exact .inl ⟨x, hx, hid, he⟩
      · exact .inr ⟨hid.symm, he⟩
  · rcases mem_admitJob_jobs.1 hx with hx | rfl
    · exact headOf_admitJob (hheads x hx hs e he)
    · exact absurd rfl hs
  · obtain ⟨j, hj, hhold⟩ := h.links i r k hr hlink
    exact ⟨j, findJob_admitJob_of_some hj, hhold⟩

/-- A job is admitted to queues whose channels are in use, behind the jobs they hold (R106, R107). -/
theorem QueuesSoundBut.admitJob (h : QueuesSound s) (hadm : admissionRefusal s mask = none) :
    QueuesSound (admitJob origin kind mask report s) where
  toJobsSound := h.toJobsSound.admitJob hadm
  follows e := by
    obtain ⟨⟨hon, -⟩, -⟩ := h.admissible hadm
    have hending {k : Nat} : isEnding s k → isEnding (Machine.admitJob origin kind mask report s) k :=
      fun ⟨j, why, hj, hs⟩ => ⟨j, why, findJob_admitJob_of_some hj, hs⟩
    have hfollows := h.follows e
    have hmode : modeBut none (Machine.admitJob origin kind mask report s) e = (s.channels.get e).mode := by simp [modeBut, Machine.admitJob]
    by_cases he : hasEmitter mask e = true
    · rw [hmode, hon e he]
      refine ⟨by simp, by simp, fun hs => ?_⟩
      obtain ⟨k, hk, hend⟩ := hfollows.ofStopped hs
      exact ⟨k, headOf_admitJob hk, hending hend⟩
    · refine hfollows.of_same ?_ fun _ => hending
      rw [admitJob_queues_get, if_neg he]

/-! ### The mirror links (R149 to R151) -/

theorem QueuesSoundBut.withRoutes {o : Option Emitter} (h : QueuesSoundBut o s) {routes : List (Nat × Route)}
    (hlinks : ∀ i r k, (i, r) ∈ routes → r.link = some k →
      ∃ j, findJob s k = some j ∧ j.isHold = true ∧ j.origin = .route i) : QueuesSoundBut o (s.withRoutes routes) :=
  ⟨⟨h.bounded, h.queued, h.ordered, hlinks⟩, fun e => (h.follows e).of_same rfl fun _ => id⟩

/-- A route entry may be SET with no link, or with one to a live HOLD that it admitted. -/
theorem QueuesSoundBut.setRoute {o : Option Emitter} (h : QueuesSoundBut o s) {i : Nat} {r : Route}
    (hlink : ∀ k, r.link = some k → ∃ j, findJob s k = some j ∧ j.isHold = true ∧ j.origin = .route i) :
    QueuesSoundBut o (setRoute i r s) := by
  refine h.withRoutes fun i' q k hq hk => ?_
  rcases Table.mem_set hq with heq | hq
  · obtain ⟨rfl, rfl⟩ := Prod.mk.inj heq
    exact hlink k hk
  · exact h.links i' q k hq hk

theorem QueuesSoundBut.updateRoute {o : Option Emitter} (h : QueuesSoundBut o s) {i : Nat} {f : Route → Route}
    (hlink : ∀ r k, (f r).link = some k → ∃ j, findJob s k = some j ∧ j.isHold = true ∧ j.origin = .route i) :
    QueuesSoundBut o (updateRoute s i f) := by
  unfold Machine.updateRoute
  split
  · next r _ => exact h.setRoute (hlink r)
  · exact h

/-- The job a route entry admits is in the job table under its id. -/
theorem JobsSound.findJob_admitJob (h : JobsSound s) (hadm : admissionRefusal s mask = none) :
    findJob (Machine.admitJob origin kind mask report s) (nextId s.ems) =
      some (newJob (nextId s.ems) origin kind mask report) :=
  (h.admitJob hadm).findJob_of_mem (mem_admitJob_jobs.2 (.inr rfl))

end

theorem routeAdmission_keepsQueues (i : Nat) (r : Route) (s : State) : KeepsQueues s (routeAdmission i r s) := by
  intro h
  unfold routeAdmission
  split
  · exact h.beside (notify_beside_queues _ s)
  · next hadm =>
    have hadmitted := h.admitJob (origin := .route i) (kind := routeKind s r) (report := r.report) hadm
    refine QueuesSoundBut.examineFor ?_ _
    split
    · next hmirror =>
      refine hadmitted.updateRoute fun q k hk => ?_
      obtain rfl : nextId s.ems = k := by simpa using hk
      exact ⟨_, h.findJob_admitJob hadm, by simp [newJob, Job.isHold, routeKind, hmirror], rfl⟩
    · exact hadmitted

theorem routeRelease_keepsQueues (i : Nat) (s : State) : KeepsQueues s (routeRelease i s) := by
  intro h
  unfold routeRelease
  split
  · exact h
  · split
    · exact h
    · next id _ =>
      exact (examine_keepsQueues _ (releaseJob_keepsQueues id s h)).updateRoute fun r k hk => by simp at hk

end Sys2Proof.Machine
end

section
/-! Every event keeps the queues and the jobs they hold: the time lines of jobs, the drive, the routes, the Recognizer, the
capture contexts, the library and the resets. -/

namespace Sys2Proof.Machine

/-- An operation that leaves the scheduler, the routes and the channels alone. -/
theorem KeepsQueues.of_same {s t : State} (hems : t.ems = s.ems) (hroutes : t.routes = s.routes)
    (hchannels : t.channels = s.channels) : KeepsQueues s t :=
  BesideQueues.keeps ⟨hems, hroutes, fun _ => by rw [hchannels], fun _ => by rw [hchannels]⟩

/-! ### The outbound queue, the Learn Unit and the masking condition -/

theorem Blocks.besideQueues_learning : Blocks.besideQueues.learning := ⟨rfl, rfl, rfl⟩

theorem notifyIf_keepsQueues (c : Bool) (n : Notification) (s : State) : KeepsQueues s (notifyIf c n s) :=
  .of_changes (notifyIf_changes rfl c n s)

theorem reply_keepsQueues (tag : Byte) (st : Status) (more : List Byte) (s : State) : KeepsQueues s (reply tag st more s) :=
  .of_same rfl rfl rfl

theorem replyStatus_keepsQueues (tag : Byte) (st : Status) (s : State) : KeepsQueues s (replyStatus tag st s) :=
  .of_same rfl rfl rfl

theorem failSession_keepsQueues (x : Session) (w : LearnOutcome) (c : Nat) (s : State) :
    KeepsQueues s (failSession x w c s) := .of_changes (failSession_changes Blocks.besideQueues_learning x w c s)

theorem reduceSession_keepsQueues (x : Session) (s : State) : KeepsQueues s (reduceSession x s) :=
  .of_changes (reduceSession_changes Blocks.besideQueues_learning x s)

theorem learnTakesFrame_keepsQueues (input : Source) (f : Frame) (m : Option Measurement) (s : State) :
    KeepsQueues s (learnTakesFrame input f m s) :=
  .of_changes (learnTakesFrame_changes Blocks.besideQueues_learning input f m s)

theorem learnTakesError_keepsQueues (input : Source) (e : CaptureError) (t : Stamp) (s : State) :
    KeepsQueues s (learnTakesError input e t s) :=
  .of_changes (learnTakesError_changes Blocks.besideQueues_learning input e t s)

theorem withMasking_keepsQueues {f : State → State} {s : State} (h : KeepsQueues s (f s)) :
    KeepsQueues s (withMasking f s) :=
  .ite (h.trans (.of_changes (maskingRises_changes Blocks.besideQueues_learning _)))
    (.ite (h.trans (.of_changes (maskingEnds_changes rfl _))) h)

/-! ### The time lines of jobs (R126 to R133) -/

theorem endJob_keepsQueues (id : Nat) (why : JobOutcome) (s : State) : KeepsQueues s (endJob id why s) :=
  fun h => h.endJob id why

theorem startStep_keepsQueues (id k moment : Nat) (afterSend : Bool) (s : State) :
    KeepsQueues s (startStep id k moment afterSend s) := fun h => h.startStep id k moment afterSend

theorem setPhase_keepsQueues (id : Nat) (ph : PlayPhase) (s : State) : KeepsQueues s (setPhase id ph s) :=
  fun h => h.updateJob_sameState (fun _ => rfl) fun _ => rfl

theorem updateParticipants_keepsQueues (j : Job) {f : Channel → Channel} (hf : KeepsMode f) (s : State) :
    KeepsQueues s (updateParticipants j f s) := (updateParticipants_beside_queues hf).keeps

theorem keepsMode_endMark (moment : Nat) : KeepsMode fun c => c.endMark moment := by
  intro c
  dsimp only [Channel.endMark]
  split
  · split <;> exact ⟨rfl, rfl⟩
  · exact ⟨rfl, rfl⟩

theorem keepsMode_frameEnds (minFrameGap moment : Nat) : KeepsMode fun c => c.frameEnds minFrameGap moment :=
  keepsMode_endMark moment

theorem startFrame_keepsQueues (j : Job) (p : Play) (r : Record) (start : Nat) (s : State) :
    KeepsQueues s (startFrame j p r start s) := by
  have hmark (tail d : Nat) : KeepsMode fun c => (c.frameStarts tail).startMark r d start := fun _ => ⟨rfl, rfl⟩
  unfold startFrame
  exact withMasking_keepsQueues ((updateParticipants_keepsQueues j (hmark _ _) s).trans (setPhase_keepsQueues _ _ _))

theorem frameStartEvent_keepsQueues (id : Nat) (s : State) : KeepsQueues s (frameStartEvent id s) := by
  unfold frameStartEvent
  split
  · exact .refl s
  · split
    · exact .ite (startFrame_keepsQueues _ _ _ _ s) (.refl s)
    · exact .refl s

theorem elementEndEvent_keepsQueues (id : Nat) (s : State) : KeepsQueues s (elementEndEvent id s) := by
  unfold elementEndEvent
  split
  · exact .refl s
  · split
    · dsimp only
      split
      · exact .refl s
      · refine .ite ((updateParticipants_keepsQueues _ ?_ s).trans (setPhase_keepsQueues _ _ _)) (.refl s)
        split
        · exact keepsMode_endMark _
        · exact fun _ => ⟨rfl, rfl⟩
    · exact .refl s

theorem stepEnds_keepsQueues (j : Job) (steps : List Machine.Step) (moment : Nat) (wasSend : Bool) (s : State) :
    KeepsQueues s (stepEnds j steps moment wasSend s) := by
  unfold stepEnds
  split
  · exact endJob_keepsQueues _ _ s
  · exact startStep_keepsQueues _ _ _ _ s
  · exact .ite (setPhase_keepsQueues _ _ s) (startStep_keepsQueues _ _ _ _ s)

theorem afterFrame_keepsQueues (j : Job) (p : Play) (r : Record) (run : FrameRun) (s : State) :
    KeepsQueues s (afterFrame j p r run s) := by
  have hnext : KeepsQueues s (nextFrame j r run s) := setPhase_keepsQueues _ _ s
  unfold afterFrame
  split
  · exact .refl s
  · exact .ite (endJob_keepsQueues _ _ s) hnext
  · split
    · exact .ite (endJob_keepsQueues _ _ s) hnext
    · exact hnext
    · split
      · exact .ite (stepEnds_keepsQueues _ _ _ _ s) hnext
      · exact hnext

theorem frameEndEvent_keepsQueues (id : Nat) (s : State) : KeepsQueues s (frameEndEvent id s) := by
  unfold frameEndEvent
  split
  · exact .refl s
  · split
    · refine .ite (.trans (.trans ?_ (afterFrame_keepsQueues _ _ _ _ _)) (examine_keepsQueues _)) (.refl s)
      exact (updateParticipants_keepsQueues _ (keepsMode_frameEnds _ _) s).trans
        fun h => h.updateJob_sameState (fun _ => rfl) fun _ => rfl
    · exact .refl s

theorem pauseEndEvent_keepsQueues (id : Nat) (s : State) : KeepsQueues s (pauseEndEvent id s) := by
  unfold pauseEndEvent
  split
  · exact .refl s
  · split
    · exact .ite ((stepEnds_keepsQueues _ _ _ _ s).trans (examine_keepsQueues _)) (.refl s)
    · exact .refl s

theorem sendStepStartEvent_keepsQueues (id : Nat) (s : State) : KeepsQueues s (sendStepStartEvent id s) := by
  unfold sendStepStartEvent
  split
  · exact .refl s
  · split
    · exact .ite ((startStep_keepsQueues _ _ _ _ s).trans (examine_keepsQueues _)) (.refl s)
    · exact .refl s

theorem holdDeadlineEvent_keepsQueues (id : Nat) (s : State) : KeepsQueues s (holdDeadlineEvent id s) := by
  unfold holdDeadlineEvent
  split
  · exact .refl s
  · next j hj =>
    split
    · next hdue =>
      obtain ⟨-, hactive, -⟩ := hdue
      exact fun h => examine_keepsQueues _ (h.enterEnding hj hactive _)
    · exact .refl s

/-! ### The drive of the emitters (R127, R136, R137, R141) -/

theorem updateChannel_keepsQueues {f : Channel → Channel} (hf : KeepsMode f) (e : Emitter) (s : State) :
    KeepsQueues s (updateChannel s e f) := (updateChannel_beside_queues hf).keeps

theorem keepsMode_takeEdge (d : Drive) : KeepsMode fun c => c.takeEdge d := by
  intro c
  dsimp only [Channel.takeEdge]
  split <;> exact ⟨rfl, rfl⟩

theorem pulseEdgeEvent_keepsQueues (e : Emitter) (s : State) : KeepsQueues s (pulseEdgeEvent e s) := by
  unfold pulseEdgeEvent
  split
  · exact .ite (updateChannel_keepsQueues (keepsMode_takeEdge _) e s) (.refl s)
  · exact .refl s

theorem maskWindowCloseEvent_keepsQueues (e : Emitter) (s : State) : KeepsQueues s (maskWindowCloseEvent e s) := by
  have hcloses : KeepsMode fun c => { c with window := .closed } := fun _ => ⟨rfl, rfl⟩
  unfold maskWindowCloseEvent
  split
  · exact .ite (withMasking_keepsQueues (updateChannel_keepsQueues hcloses e s)) (.refl s)
  · exact .refl s

theorem openWindowCloseEvent_keepsQueues (e : Emitter) (s : State) : KeepsQueues s (openWindowCloseEvent e s) :=
  .ite (driveFault_keepsQueues e _ s) (.refl s)

theorem overcurrentEvent_keepsQueues (e : Emitter) (s : State) : KeepsQueues s (overcurrentEvent e s) :=
  .ite (driveFault_keepsQueues e _ s) (.refl s)

/-! ### The routes and the Recognizer (R87 to R93, R147 to R150) -/

theorem routeTurn_keepsQueues (slot : Nat) (k : Trigger) (s : State) (i : Nat) : KeepsQueues s (routeTurn slot k s i) := by
  unfold routeTurn
  split
  · exact .refl s
  · exact .ite (.refl s)
      (.ite (routeAdmission_keepsQueues _ _ s) (.ite (routeRelease_keepsQueues _ s) (.refl s)))

theorem routeReleaseTurn_keepsQueues (slot : Nat) (s : State) (i : Nat) : KeepsQueues s (routeReleaseTurn slot s i) := by
  unfold routeReleaseTurn
  split
  · exact .refl s
  · exact .ite (routeRelease_keepsQueues _ s) (.refl s)

theorem routeEvent_keepsQueues (slot : Nat) (k : Trigger) (s : State) : KeepsQueues s (routeEvent slot k s) := by
  unfold routeEvent
  split
  · exact .foldl (routeTurn_keepsQueues slot k) _ s
  · exact .ite (.foldl (routeReleaseTurn_keepsQueues slot) _ s) (.refl s)
  · exact .refl s

theorem withRcg_keepsQueues (s : State) (r : Rec) : KeepsQueues s (s.withRcg r) := .of_same rfl rfl rfl

theorem setPress_keepsQueues (p : Option Press) (s : State) : KeepsQueues s (setPress p s) := .of_same rfl rfl rfl

theorem beginPress_keepsQueues (slot : Nat) (s : State) : KeepsQueues s (beginPress slot s) :=
  ((setPress_keepsQueues _ s).trans (notifyIf_keepsQueues _ _ _)).trans (routeEvent_keepsQueues _ _ _)

theorem endPress_keepsQueues (p : Press) (w : ReleaseReason) (s : State) : KeepsQueues s (endPress p w s) :=
  ((notifyIf_keepsQueues _ _ s).trans (routeEvent_keepsQueues _ _ _)).trans (setPress_keepsQueues _ _)

theorem continuePress_keepsQueues (p : Press) (s : State) : KeepsQueues s (continuePress p s) :=
  .ite (((setPress_keepsQueues _ s).trans (notifyIf_keepsQueues _ _ _)).trans (routeEvent_keepsQueues _ _ _))
    (setPress_keepsQueues _ s)

theorem actOnFrame_keepsQueues (d : List Nat) (s : State) : KeepsQueues s (actOnFrame d s) := by
  unfold actOnFrame
  split
  · exact continuePress_keepsQueues _ s
  · exact .refl s
  · exact beginPress_keepsQueues _ s
  · exact (endPress_keepsQueues _ _ s).trans (beginPress_keepsQueues _ _)
  · exact notifyIf_keepsQueues _ _ s

theorem recognizerTakesFrame_keepsQueues (d : List Nat) (s : State) : KeepsQueues s (recognizerTakesFrame d s) := by
  unfold recognizerTakesFrame
  split
  · exact actOnFrame_keepsQueues d s
  · exact actOnFrame_keepsQueues d s
  · unfold standbyFrame
    split
    · exact .ite (.of_same rfl rfl rfl) (.refl s)
    · exact .refl s
  · exact .of_same rfl rfl rfl
  · exact .refl s

theorem actOnKept_keepsQueues (s : State) : KeepsQueues s (actOnKept s) :=
  (withRcg_keepsQueues s _).trans (.foldl (fun s d => actOnFrame_keepsQueues d s) _ _)

theorem releaseTimerEvent_keepsQueues (s : State) : KeepsQueues s (releaseTimerEvent s) := by
  unfold releaseTimerEvent
  split
  · exact .ite (endPress_keepsQueues _ _ s) (.refl s)
  · exact .refl s

theorem commitNews_keepsQueues (kind : NewsKind) (slot : Nat) (new : Option (Record × SlotFlags)) (s : State) :
    KeepsQueues s (commitNews kind slot new s) := by
  unfold commitNews
  refine (withRcg_keepsQueues s { s.rcg with index := indexAfter s.rcg.index kind slot new }).trans ?_
  dsimp only
  split
  · exact .refl _
  · refine .ite (.refl _) ?_
    split
    · exact .ite (setPress_keepsQueues _ _) (endPress_keepsQueues _ _ _)
    · exact endPress_keepsQueues _ _ _

/-! ### The Capture Unit -/

theorem setCtx_keepsQueues (s : State) (input : Source) (x : Context) : KeepsQueues s (setCtx s input x) :=
  .of_same rfl rfl rfl

theorem deliverSense_keepsQueues (f : Frame) (s : State) : KeepsQueues s (deliverSense f s) := by
  have hdraw : KeepsQueues s (countDraw s) := .of_same rfl rfl rfl
  unfold deliverSense
  split
  · exact recognizerTakesFrame_keepsQueues _ s
  · exact .ite ((hdraw.trans (recognizerTakesFrame_keepsQueues _ _)).trans (learnTakesFrame_keepsQueues _ _ _ _))
      ((hdraw.trans (learnTakesFrame_keepsQueues _ _ _ _)).trans (recognizerTakesFrame_keepsQueues _ _))

theorem deliverLearn_keepsQueues (f : Frame) (m : Option Measurement) (s : State) : KeepsQueues s (deliverLearn f m s) := by
  unfold deliverLearn
  split
  · exact .ite (learnTakesFrame_keepsQueues _ _ _ s) (learnTakesError_keepsQueues _ _ _ s)
  · exact learnTakesFrame_keepsQueues _ _ _ s

theorem frameEnds_keepsQueues (input : Source) (s : State) : KeepsQueues s (frameEnds input s) := by
  cases input with
  | sense => exact (setCtx_keepsQueues s .sense _).trans (deliverSense_keepsQueues _ _)
  | learn => exact (setCtx_keepsQueues s .learn _).trans (deliverLearn_keepsQueues _ _ _)

theorem captureError_keepsQueues (input : Source) (e : CaptureError) (s : State) :
    KeepsQueues s (captureError input e s) :=
  (setCtx_keepsQueues s input _).trans (learnTakesError_keepsQueues input e _ _)

theorem takeEnvelope_keepsQueues (input : Source) (s : State) : KeepsQueues s (takeEnvelope input s) :=
  .ite (setCtx_keepsQueues s input _) (.refl s)

theorem takeSettled_keepsQueues (input : Source) (s : State) : KeepsQueues s (takeSettled input s) :=
  .ite (setCtx_keepsQueues s input _) (.refl s)

theorem takeGap_keepsQueues (input : Source) (s : State) : KeepsQueues s (takeGap input s) :=
  .ite (frameEnds_keepsQueues input s) (.refl s)

theorem takeCandidate_keepsQueues (input : Source) (s : State) : KeepsQueues s (takeCandidate input s) :=
  .ite (.ite (captureError_keepsQueues input _ s) (setCtx_keepsQueues s input _)) (.refl s)

theorem takeLong_keepsQueues (input : Source) (s : State) : KeepsQueues s (takeLong input s) :=
  .ite (captureError_keepsQueues input _ s) (.refl s)

theorem candidateEvent_keepsQueues (input : Source) (s : State) : KeepsQueues s (candidateEvent input s) :=
  (takeEnvelope_keepsQueues input s).trans (takeCandidate_keepsQueues input _)

theorem gapEvent_keepsQueues (input : Source) (s : State) : KeepsQueues s (gapEvent input s) :=
  (takeEnvelope_keepsQueues input s).trans (takeGap_keepsQueues input _)

theorem longEvent_keepsQueues (input : Source) (s : State) : KeepsQueues s (longEvent input s) :=
  (takeEnvelope_keepsQueues input s).trans (takeLong_keepsQueues input _)

theorem catchUp_keepsQueues (input : Source) (s : State) : KeepsQueues s (catchUp input s) := by
  have hsettle (c : Prop) [Decidable c] (s : State) : KeepsQueues s (if c then ctxIdle input s else s) :=
    .ite (setCtx_keepsQueues s input _) (.refl s)
  have hgap (c : Prop) [Decidable c] (s : State) : KeepsQueues s (if c then takeGap input s else s) :=
    .ite (takeGap_keepsQueues input s) (.refl s)
  exact (((takeEnvelope_keepsQueues input s).trans (hsettle _ _)).trans (hgap _ _)).trans
    ((takeCandidate_keepsQueues input _).trans (takeLong_keepsQueues input _))

theorem riseEvent_keepsQueues (input : Source) (s : State) : KeepsQueues s (riseEvent input s) := by
  have hrise (u : State) (level : Bool) (c : Context) : KeepsQueues u (setCtx (setLevel input level u) input c) :=
    .of_same rfl rfl rfl
  exact (catchUp_keepsQueues input s).trans (.ite (.refl _)
    (((hrise _ _ _).trans (takeCandidate_keepsQueues input _)).trans (takeLong_keepsQueues input _)))

theorem fallEvent_keepsQueues (input : Source) (s : State) : KeepsQueues s (fallEvent input s) :=
  (catchUp_keepsQueues input s).trans (.ite (.of_same rfl rfl rfl) (.refl _))

theorem windowEvent_keepsQueues (s : State) : KeepsQueues s (windowEvent s) := by
  unfold windowEvent
  split
  · exact .ite (failSession_keepsQueues _ _ _ s) (.refl s)
  · exact .refl s

theorem endGapEvent_keepsQueues (s : State) : KeepsQueues s (endGapEvent s) := by
  unfold endGapEvent
  split
  · exact .ite (.of_changes (endGapExpires_changes Blocks.besideQueues_learning _ s)) (.refl s)
  · exact .refl s

/-! ### The library and its mount -/

theorem withLib_keepsQueues (s : State) (l : Lib) : KeepsQueues s (s.withLib l) := .of_same rfl rfl rfl

theorem setDirectory_keepsQueues (d : List (Nat × DirEntry)) (s : State) : KeepsQueues s (setDirectory d s) := withLib_keepsQueues s _

theorem eraseSegment_keepsQueues (n : Nat) (s : State) : KeepsQueues s (eraseSegment n s) := withLib_keepsQueues s _

theorem setMount_keepsQueues (stage : MountStage) (repaired reclaimed : Nat) (s : State) :
    KeepsQueues s (setMount stage repaired reclaimed s) := withLib_keepsQueues s _

theorem mountEnds_keepsQueues (repaired reclaimed : Nat) (s : State) : KeepsQueues s (mountEnds repaired reclaimed s) :=
  .of_same rfl rfl rfl

theorem segmentVerifyEvent_keepsQueues (agrees : Bool) (s : State) : KeepsQueues s (segmentVerifyEvent agrees s) := by
  unfold segmentVerifyEvent
  split
  · exact .refl s
  · split
    · exact .ite (.ite (.of_same rfl rfl rfl) (.of_same rfl rfl rfl)) (.refl s)
    · exact .refl s

theorem endOp_keepsQueues (op : LibOp) (fault : Bool) (s : State) : KeepsQueues s (endOp op fault s) := .of_same rfl rfl rfl

theorem commitEvent_keepsQueues (s : State) : KeepsQueues s (commitEvent s) := by
  have hrelease (op : LibOp) (old : List Nat) (u : State) : KeepsQueues u (releaseOldChain op old u) :=
    .ite (endOp_keepsQueues op _ u) (.of_same rfl rfl rfl)
  unfold commitEvent
  split
  · exact .refl s
  · next op _ =>
    refine .ite ?_ (.refl s)
    have hnews : KeepsQueues s (commitNews op.kind.news op.slot
        (committedNews (setDirectory (op.commits s.lib.directory) s) op.slot)
        (setDirectory (op.commits s.lib.directory) s)) :=
      (setDirectory_keepsQueues _ s).trans (commitNews_keepsQueues _ _ _ _)
    dsimp only
    split
    · exact hnews.trans (endOp_keepsQueues _ _ _)
    · exact hnews.trans (hrelease _ _ _)
    · exact hnews.trans (hrelease _ _ _)

theorem segmentErasedEvent_keepsQueues (s : State) : KeepsQueues s (segmentErasedEvent s) := by
  have hnext (op : LibOp) (n m seg : Nat) (fault : Bool) :
      KeepsQueues s (releaseNext op n m fault (eraseSegment seg s)) :=
    .ite (.of_same rfl rfl rfl) (.of_same rfl rfl rfl)
  unfold segmentErasedEvent
  split
  · exact .refl s
  · split
    · refine .ite ?_ (.refl s)
      split
      · exact hnext _ _ _ _ _
      · exact hnext _ _ _ _ _
      · exact .refl s
    · exact .refl s

theorem beginReclaim_keepsQueues (moment repaired : Nat) (s : State) : KeepsQueues s (beginReclaim moment repaired s) := by
  unfold beginReclaim
  dsimp only
  split
  · exact (withLib_keepsQueues s _).trans (mountEnds_keepsQueues _ _ _)
  · exact (withLib_keepsQueues s _).trans (setMount_keepsQueues _ _ _ _)

theorem scanCompleteEvent_keepsQueues (decayed : List (Nat × List Byte)) (s : State) :
    KeepsQueues s (scanCompleteEvent decayed s) := by
  unfold scanCompleteEvent
  split
  · refine .ite ?_ (.refl s)
    dsimp only
    split
    · exact (withLib_keepsQueues s _).trans (beginReclaim_keepsQueues _ _ _)
    · exact (withLib_keepsQueues s _).trans (setMount_keepsQueues _ _ _ _)
  · exact .refl s

theorem repairCommitEvent_keepsQueues (s : State) : KeepsQueues s (repairCommitEvent s) := by
  unfold repairCommitEvent
  split
  · refine .ite ?_ (.refl s)
    dsimp only
    split
    · exact (setDirectory_keepsQueues _ s).trans (beginReclaim_keepsQueues _ _ _)
    · exact (setDirectory_keepsQueues _ s).trans (setMount_keepsQueues _ _ _ _)
  · exact .refl s

theorem reclaimEraseEvent_keepsQueues (s : State) : KeepsQueues s (reclaimEraseEvent s) := by
  unfold reclaimEraseEvent
  split
  · refine .ite ?_ (.refl s)
    dsimp only
    split
    · exact (eraseSegment_keepsQueues _ s).trans (mountEnds_keepsQueues _ _ _)
    · exact (eraseSegment_keepsQueues _ s).trans (setMount_keepsQueues _ _ _ _)
  · exact .refl s

/-! ### The resets, standby and wake (R182, R183, R185, R187) -/

/-- A reset leaves no job, no link and no channel out of use. -/
theorem KeepsQueues.of_reset {s t : State} (hems : t.ems = Ems.reset) (hroutes : t.routes = [])
    (hchannels : t.channels = PerEmitter.all Channel.reset) : KeepsQueues s t := by
  intro _
  refine ⟨⟨?_, ?_, ?_, ?_⟩, fun e => ?_⟩
  · simp [QueuesBounded, hems, Ems.reset]
  · simp [JobsQueued, hems, Ems.reset]
  · simp [QueuesOrdered, hems, Ems.reset]
  · simp [LinksNameHolds, hroutes]
  · simp only [modeBut, hchannels, PerEmitter.get_all]
    exact ⟨by simp [hems, Ems.reset], by simp [hems, Ems.reset], by simp [Channel.reset]⟩

theorem powerOnEvent_keepsQueues (straps : Straps) (s : State) : KeepsQueues s (powerOnEvent straps s) :=
  .of_reset rfl rfl rfl

theorem rstnAssertedEvent_keepsQueues (straps : Straps) (s : State) : KeepsQueues s (rstnAssertedEvent straps s) :=
  .ite (.refl s) (.ite (.of_reset rfl rfl rfl) (.of_same rfl rfl rfl))

theorem rstnReleasedEvent_keepsQueues (s : State) : KeepsQueues s (rstnReleasedEvent s) := by
  unfold rstnReleasedEvent
  refine .ite ?_ (.refl s)
  dsimp only
  split <;> exact .of_same rfl rfl rfl

theorem powerLossEvent_keepsQueues (s : State) : KeepsQueues s (powerLossEvent s) :=
  .ite (.of_reset rfl rfl rfl) (.refl s)

theorem settleStandby_keepsQueues (s : State) : KeepsQueues s (settleStandby s) :=
  .of_changes (settleStandby_changes rfl rfl s)

theorem wakeCompletionEvent_keepsQueues (s : State) : KeepsQueues s (wakeCompletionEvent s) := by
  unfold wakeCompletionEvent
  split
  · refine .ite (KeepsQueues.trans ?_ (actOnKept_keepsQueues _)) (.refl s)
    exact .of_same rfl rfl rfl
  · exact .refl s

end Sys2Proof.Machine
end

section
/-! What every command keeps of the queues and the jobs they hold: the requests, the link, and the step (R100 to R121, R135,
R145, R146). -/

namespace Sys2Proof.Machine

/-! ### Operating Control, the Learn Unit and the library -/

theorem withOpc_keepsQueues (s : State) (o : Opc) : KeepsQueues s (s.withOpc o) := .of_same rfl rfl rfl

theorem returnToAwake_keepsQueues (s : State) : KeepsQueues s (returnToAwake s) :=
  .ite (withOpc_keepsQueues s _) (.refl s)

theorem applyPair_keepsQueues (s : State) (pair : Nat × Nat) : KeepsQueues s (applyPair s pair) := by
  have hparam : KeepsQueues s (s.withOpc { s.opc with params := s.opc.params.update pair.1 pair.2 }) :=
    withOpc_keepsQueues s _
  have hoff (t : State) : Changes Blocks.besideQueues t (discarding .sense (ctxOff .sense) t) :=
    discarding_changes Blocks.besideQueues_learning .sense (fun u => .withCap rfl u _) t
  exact .ite (hparam.trans (.of_changes (hoff _))) (.ite (hparam.trans (setCtx_keepsQueues _ .sense _)) hparam)

theorem ownConfigure_keepsQueues (tag : Byte) (p : List Byte) (s : State) : KeepsQueues s (ownConfigure tag p s) := by
  unfold ownConfigure
  refine .ite (replyStatus_keepsQueues tag _ s) ?_
  split
  · exact reply_keepsQueues tag _ _ s
  · exact (replyStatus_keepsQueues tag _ s).trans (.foldl applyPair_keepsQueues _ _)

theorem ownReadConfig_keepsQueues (tag : Byte) (p : List Byte) (s : State) : KeepsQueues s (ownReadConfig tag p s) := by
  unfold ownReadConfig
  split
  · exact reply_keepsQueues tag _ _ s
  · exact reply_keepsQueues tag _ _ s

theorem ownStandby_keepsQueues (tag : Byte) (s : State) : KeepsQueues s (ownStandby tag s) :=
  (replyStatus_keepsQueues tag _ s).trans (withOpc_keepsQueues _ _)

theorem resetRequest_keepsQueues (s : State) : KeepsQueues s (resetRequest s) := .of_reset rfl rfl rfl

theorem withLrn_keepsQueues (s : State) (l : Lrn) : KeepsQueues s (s.withLrn l) := .of_same rfl rfl rfl

theorem beginSession_keepsQueues (source : Source) (window hint : Nat) (tag : Byte) (s : State) :
    KeepsQueues s (beginSession source window hint tag s) := by
  cases source with
  | learn => exact (withLrn_keepsQueues s _).trans (setCtx_keepsQueues _ .learn _)
  | sense => exact withLrn_keepsQueues s _

theorem ownLearnStart_keepsQueues (tag : Byte) (p : List Byte) (s : State) : KeepsQueues s (ownLearnStart tag p s) := by
  have hrefused (st : Status) : KeepsQueues s (replyStatus tag st s) := replyStatus_keepsQueues tag st s
  unfold ownLearnStart
  split
  · exact hrefused _
  · exact .ite (.ite (hrefused _) ((replyStatus_keepsQueues tag _ s).trans (beginSession_keepsQueues _ _ _ _ _)))
      (hrefused _)

theorem ownLearnStop_keepsQueues (tag : Byte) (s : State) : KeepsQueues s (ownLearnStop tag s) := by
  unfold ownLearnStop
  split
  · exact replyStatus_keepsQueues tag _ s
  · split
    · exact (replyStatus_keepsQueues tag _ s).trans (failSession_keepsQueues _ _ _ _)
    · exact (replyStatus_keepsQueues tag _ s).trans (reduceSession_keepsQueues _ _)

theorem ownReadStaged_keepsQueues (tag : Byte) (s : State) : KeepsQueues s (ownReadStaged tag s) := by
  unfold ownReadStaged
  split
  · exact reply_keepsQueues tag _ _ s
  · exact replyStatus_keepsQueues tag _ s

theorem beginStore_keepsQueues (slot : Nat) (flags : SlotFlags) (r : Record) (tag : Byte) (s : State) :
    KeepsQueues s (beginStore slot flags r tag s) := withLib_keepsQueues s _

theorem beginCommit_keepsQueues (kind : LibKind) (slot : Nat) (flags : SlotFlags) (tag : Byte) (s : State) :
    KeepsQueues s (beginCommit kind slot flags tag s) := withLib_keepsQueues s _

theorem ownStore_keepsQueues (tag : Byte) (p : List Byte) (s : State) : KeepsQueues s (ownStore tag p s) := by
  have hrefused (st : Status) : KeepsQueues s (replyStatus tag st s) := replyStatus_keepsQueues tag st s
  unfold ownStore
  refine .ite (hrefused _) ?_
  split
  · exact reply_keepsQueues tag _ _ s
  · exact .ite (hrefused _) (.ite (hrefused _)
      ((replyStatus_keepsQueues tag _ s).trans (beginStore_keepsQueues _ _ _ _ _)))

theorem ownErase_keepsQueues (tag : Byte) (p : List Byte) (s : State) : KeepsQueues s (ownErase tag p s) := by
  unfold ownErase
  refine .ite ?_ (replyStatus_keepsQueues tag _ s)
  split
  · exact replyStatus_keepsQueues tag _ s
  · exact (replyStatus_keepsQueues tag _ s).trans (beginCommit_keepsQueues _ _ _ _ _)

theorem ownSetCodeFlags_keepsQueues (tag : Byte) (p : List Byte) (s : State) :
    KeepsQueues s (ownSetCodeFlags tag p s) := by
  unfold ownSetCodeFlags
  dsimp only
  split
  · exact replyStatus_keepsQueues tag _ s
  · refine .ite ?_ (replyStatus_keepsQueues tag _ s)
    split
    · exact replyStatus_keepsQueues tag _ s
    · exact (replyStatus_keepsQueues tag _ s).trans (beginCommit_keepsQueues _ _ _ _ _)

theorem ownReadCode_keepsQueues (tag : Byte) (p : List Byte) (s : State) : KeepsQueues s (ownReadCode tag p s) := by
  unfold ownReadCode
  refine .ite ?_ (replyStatus_keepsQueues tag _ s)
  split
  · exact replyStatus_keepsQueues tag _ s
  · exact reply_keepsQueues tag _ _ s

theorem ownListCodes_keepsQueues (tag : Byte) (p : List Byte) (s : State) : KeepsQueues s (ownListCodes tag p s) :=
  .ite (reply_keepsQueues tag _ _ s) (replyStatus_keepsQueues tag _ s)

/-! ### The job requests (R106, R107, R114 to R117) -/

theorem admitHostJob_keepsQueues (tag : Byte) (mask : Mask) (kind : JobKind) (s : State) :
    KeepsQueues s (admitHostJob tag mask kind s) := by
  unfold admitHostJob
  split
  · exact replyStatus_keepsQueues tag _ s
  · next hadm =>
    intro h
    exact examine_keepsQueues _ (reply_keepsQueues tag _ _ _ (h.admitJob hadm))

theorem ownSend_keepsQueues (tag : Byte) (p : List Byte) (s : State) : KeepsQueues s (ownSend tag p s) := by
  unfold ownSend
  split
  · exact replyStatus_keepsQueues tag _ s
  · exact .ite (admitHostJob_keepsQueues tag _ _ s) (replyStatus_keepsQueues tag _ s)

theorem ownHold_keepsQueues (tag : Byte) (p : List Byte) (s : State) : KeepsQueues s (ownHold tag p s) := by
  unfold ownHold
  split
  · exact replyStatus_keepsQueues tag _ s
  · exact .ite (admitHostJob_keepsQueues tag _ _ s) (replyStatus_keepsQueues tag _ s)

theorem ownSequence_keepsQueues (tag : Byte) (p : List Byte) (s : State) : KeepsQueues s (ownSequence tag p s) := by
  unfold ownSequence
  refine .ite (replyStatus_keepsQueues tag _ s) ?_
  split
  · exact admitHostJob_keepsQueues tag _ _ s
  · exact replyStatus_keepsQueues tag _ s

theorem ownRelease_keepsQueues (tag : Byte) (p : List Byte) (s : State) : KeepsQueues s (ownRelease tag p s) := by
  unfold ownRelease
  dsimp only
  split
  · exact ((replyStatus_keepsQueues tag _ s).trans (releaseJob_keepsQueues _ _)).trans (examine_keepsQueues _)
  · exact replyStatus_keepsQueues tag _ s

theorem ownCancel_keepsQueues (tag : Byte) (p : List Byte) (s : State) : KeepsQueues s (ownCancel tag p s) := by
  unfold ownCancel
  dsimp only
  split
  · exact ((replyStatus_keepsQueues tag _ s).trans (cancelJob_keepsQueues _ _)).trans (examine_keepsQueues _)
  · exact replyStatus_keepsQueues tag _ s

theorem ownFlush_keepsQueues (tag : Byte) (p : List Byte) (s : State) : KeepsQueues s (ownFlush tag p s) := by
  unfold ownFlush
  split
  · exact replyStatus_keepsQueues tag _ s
  · exact ((reply_keepsQueues tag _ _ s).trans (.foldl (fun t id => cancelJob_keepsQueues id t) _ _)).trans
      (examine_keepsQueues _)

theorem ownJobStatus_keepsQueues (tag : Byte) (p : List Byte) (s : State) : KeepsQueues s (ownJobStatus tag p s) := by
  unfold ownJobStatus
  split
  · exact reply_keepsQueues tag _ _ s
  · split
    · exact reply_keepsQueues tag _ _ s
    · exact replyStatus_keepsQueues tag _ s

/-! ### EMITTER_CONTROL (R118, R119, R135) -/

section
variable {s : State} {e : Emitter}

/-- Where the head of the queue is QUEUED, so is every job of it. -/
theorem JobsSound.queued_of_not_busy (h : JobsSound s) (hon : (s.channels.get e).mode = .on)
    (hidle : channelState s e ≠ .busy) {k : Nat} (hk : k ∈ s.ems.queues.get e) {j : Job} (hj : findJob s k = some j) :
    j.state = .queued := by
  by_contra hs
  obtain ⟨j', hj', he⟩ := h.mem_queue_iff.1 hk
  obtain rfl : j = j' := Option.some.inj (hj.symm.trans hj')
  have hhead : (s.ems.queues.get e).head? = some k := h.heads hj hs he
  exact hidle (by simp [channelState, hon, hhead, hj, hs])

/-- An emitter in IDLE or WAITING has no job left once its QUEUED jobs have failed (R118). -/
theorem JobsSound.failQueued_empty (h : JobsSound s) (hon : (s.channels.get e).mode = .on)
    (hidle : channelState s e ≠ .busy) (why : JobOutcome) : (failQueued e why s).ems.queues.get e = [] := by
  refine List.eq_nil_iff_forall_not_mem.2 fun k hk => ?_
  obtain ⟨hmem, j, -, hj, hs⟩ := h.mem_failQueued hk
  exact hs (h.queued_of_not_busy hon hidle hmem hj)

/-- A channel whose queue is empty may go out of use. -/
theorem QueuesSoundBut.takeOutOfUse (h : QueuesSound s) (hempty : s.ems.queues.get e = []) :
    QueuesSound (Machine.updateChannel s e fun c => { c with mode := .off }) :=
  h.updateChannel ⟨fun _ => hempty, by simp, (h.follows e).ofStopped⟩

theorem mode_of_idle (h : channelState s e = .idle ∨ channelState s e = .waiting) : (s.channels.get e).mode = .on := by
  cases hm : (s.channels.get e).mode with
  | on => rfl
  | off => simp [channelState_off hm] at h
  | fault k => simp [channelState_fault hm] at h

end

theorem disableEmitter_keepsQueues (tag : Byte) (e : Emitter) (s : State) : KeepsQueues s (disableEmitter tag e s) := by
  by_cases hidle : channelState s e = .idle ∨ channelState s e = .waiting
  · intro h
    have hon := mode_of_idle hidle
    have hbusy : channelState s e ≠ .busy := by rcases hidle with hs | hs <;> simp [hs]
    have htold : QueuesSound (replyStatus tag .ok s) := replyStatus_keepsQueues tag _ s h
    rw [disableEmitter_taken hidle]
    exact examine_keepsQueues _
      ((htold.failQueued e _).takeOutOfUse (htold.toJobsSound.failQueued_empty hon hbusy .failedOff))
  · unfold disableEmitter
    split
    · next hs => exact absurd (.inl hs) hidle
    · next hs => exact absurd (.inr hs) hidle
    · exact replyStatus_keepsQueues tag _ s
    · exact replyStatus_keepsQueues tag _ s
    · exact replyStatus_keepsQueues tag _ s

theorem enableEmitter_keepsQueues (tag : Byte) (e : Emitter) (s : State) : KeepsQueues s (enableEmitter tag e s) := by
  unfold enableEmitter
  split
  · refine (replyStatus_keepsQueues tag _ s).trans fun h => h.updateChannel ?_
    exact ⟨by simp, by simp, (h.follows e).ofStopped⟩
  · exact replyStatus_keepsQueues tag _ s
  · exact replyStatus_keepsQueues tag _ s

/-- A fault that ends leaves the channel STOPPED while its job lives, which is in ENDING (R119, R135). -/
theorem clearFaultOf_keepsQueues (tag : Byte) (e : Emitter) (s : State) : KeepsQueues s (clearFaultOf tag e s) := by
  unfold clearFaultOf
  split
  · next k hm =>
    refine (replyStatus_keepsQueues tag .ok s).trans fun h => h.updateChannel ⟨by simp, by simp, fun hs => ?_⟩
    cases hq : s.ems.queues.get e with
    | nil => simp [hq] at hs
    | cons id rest =>
      have hmem : id ∈ s.ems.queues.get e := by simp [hq]
      exact ⟨id, by simp [headOf, replyStatus, reply, hq], (h.follows e).ofFault k hm id hmem⟩
  · exact replyStatus_keepsQueues tag _ s

theorem setNear_keepsQueues (near : Bool) (tag : Byte) (e : Emitter) (s : State) :
    KeepsQueues s (setNear near tag e s) := by
  have hnear : KeepsMode fun c => { c with near := near } := fun _ => ⟨rfl, rfl⟩
  exact (replyStatus_keepsQueues tag .ok s).trans (updateChannel_keepsQueues hnear e _)

theorem ownEmitterControl_keepsQueues (tag : Byte) (p : List Byte) (s : State) :
    KeepsQueues s (ownEmitterControl tag p s) := by
  unfold ownEmitterControl
  split
  · exact replyStatus_keepsQueues tag _ s
  · split
    · exact disableEmitter_keepsQueues tag _ s
    · exact enableEmitter_keepsQueues tag _ s
    · exact clearFaultOf_keepsQueues tag _ s
    · exact setNear_keepsQueues true tag _ s
    · exact setNear_keepsQueues false tag _ s
    · exact replyStatus_keepsQueues tag _ s

/-! ### The Route Table (R145, R146) -/

/-- The entry that a ROUTE_SET describes has no mirror link. -/
theorem link_of_routeOf {p : List Byte} {r : Route} (h : routeOf p = some r) : r.link = none := by
  unfold routeOf at h
  dsimp only at h
  split at h
  · split at h
    · split at h
      · split at h
        · obtain rfl := Option.some.inj h
          rfl
        · cases h
      · split at h
        · obtain rfl := Option.some.inj h
          rfl
        · cases h
    · cases h
  · cases h

theorem ownRouteSet_keepsQueues (tag : Byte) (p : List Byte) (s : State) : KeepsQueues s (ownRouteSet tag p s) := by
  unfold ownRouteSet
  split
  · exact replyStatus_keepsQueues tag _ s
  · next r hr =>
    refine ((replyStatus_keepsQueues tag _ s).trans (routeRelease_keepsQueues _ _)).trans fun h => h.setRoute fun k hk => ?_
    simp [link_of_routeOf hr] at hk

theorem ownRouteClear_keepsQueues (tag : Byte) (p : List Byte) (s : State) : KeepsQueues s (ownRouteClear tag p s) :=
  .ite
    (((replyStatus_keepsQueues tag _ s).trans (routeRelease_keepsQueues _ _)).trans fun h =>
      h.withRoutes fun i r k hr hk => h.links i r k (Table.mem_erase hr) hk)
    (replyStatus_keepsQueues tag _ s)

theorem ownRouteRead_keepsQueues (tag : Byte) (p : List Byte) (s : State) : KeepsQueues s (ownRouteRead tag p s) :=
  .ite (reply_keepsQueues tag _ _ s) (replyStatus_keepsQueues tag _ s)

/-! ### Taking a frame (R161, R162) -/

theorem own_keepsQueues (found : OpState) (kind : ReqKind) (tag : Byte) (p : List Byte) (s : State) :
    KeepsQueues s (own found kind tag p s) := by
  cases kind with
  | getStatus => exact reply_keepsQueues tag _ _ s
  | configure => exact ownConfigure_keepsQueues tag p s
  | readConfig => exact ownReadConfig_keepsQueues tag p s
  | standby => exact ownStandby_keepsQueues tag s
  | reset => exact resetRequest_keepsQueues s
  | learnStart => exact ownLearnStart_keepsQueues tag p s
  | learnStop => exact ownLearnStop_keepsQueues tag s
  | readStaged => exact ownReadStaged_keepsQueues tag s
  | store => exact ownStore_keepsQueues tag p s
  | erase => exact ownErase_keepsQueues tag p s
  | setCodeFlags => exact ownSetCodeFlags_keepsQueues tag p s
  | readCode => exact ownReadCode_keepsQueues tag p s
  | listCodes => exact ownListCodes_keepsQueues tag p s
  | send => exact ownSend_keepsQueues tag p s
  | hold => exact ownHold_keepsQueues tag p s
  | sequence => exact ownSequence_keepsQueues tag p s
  | release => exact ownRelease_keepsQueues tag p s
  | cancel => exact ownCancel_keepsQueues tag p s
  | flush => exact ownFlush_keepsQueues tag p s
  | jobStatus => exact ownJobStatus_keepsQueues tag p s
  | emitterControl => exact ownEmitterControl_keepsQueues tag p s
  | routeSet => exact ownRouteSet_keepsQueues tag p s
  | routeClear => exact ownRouteClear_keepsQueues tag p s
  | routeRead => exact ownRouteRead_keepsQueues tag p s

theorem take_keepsQueues (f : CheckedFrame) (s : State) : KeepsQueues s (take f s) := by
  cases f with
  | rejected tag status => exact replyStatus_keepsQueues tag status s
  | good kind tag p =>
    unfold take
    dsimp only
    split
    · exact own_keepsQueues _ _ _ _ s
    · exact (returnToAwake_keepsQueues s).trans (own_keepsQueues _ _ _ _ _)

theorem withLink_keepsQueues (s : State) (l : Link) : KeepsQueues s (s.withLink l) := .of_same rfl rfl rfl

theorem arrive_keepsQueues (f : CheckedFrame) (s : State) : KeepsQueues s (arrive f s) :=
  .ite ((withLink_keepsQueues s _).trans (take_keepsQueues f _)) (withLink_keepsQueues s _)

theorem takePending_keepsQueues (s : State) : KeepsQueues s (takePending s) := by
  unfold takePending
  split
  · exact .refl s
  · split
    · exact (withLink_keepsQueues s _).trans (take_keepsQueues _ _)
    · exact .refl s

/-! ### The link (R157 to R170) -/

theorem setAck_keepsQueues (acked : Bool) (s : State) : KeepsQueues s (setAck acked s) := .of_same rfl rfl rfl

theorem setSent_keepsQueues (b : Byte) (s : State) : KeepsQueues s (setSent b s) := .of_same rfl rfl rfl

theorem writeEndEvent_keepsQueues (s : State) : KeepsQueues s (writeEndEvent s) := by
  unfold writeEndEvent
  split
  · exact .ite (withLink_keepsQueues s _) (arrive_keepsQueues _ s)
  · exact .refl s

theorem readEndEvent_keepsQueues (s : State) : KeepsQueues s (readEndEvent s) :=
  .ite (withLink_keepsQueues s _) (.refl s)

theorem judgeAddress_keepsQueues (read : Bool) (s : State) : KeepsQueues s (judgeAddress read s) := by
  have hrefused (t : State) : KeepsQueues t (setAck false t) := setAck_keepsQueues false t
  have hopens (l : Link) : KeepsQueues s (setAck true (s.withLink l)) :=
    (withLink_keepsQueues s l).trans (setAck_keepsQueues true _)
  have hwakes : KeepsQueues s (if s.opc.state = .standby then beginWake .link s else s) :=
    .ite (withOpc_keepsQueues s _) (.refl s)
  unfold judgeAddress
  split
  · exact hwakes.trans (hrefused _)
  · exact .ite (hrefused s) (.ite (hopens _) (hopens _))
  · exact .ite (hrefused s) (hopens _)
  · exact hrefused s
  · exact hrefused s

theorem addressEvent_keepsQueues (address : BitVec 7) (read : Bool) (s : State) :
    KeepsQueues s (addressEvent address read s) := by
  have hend : KeepsQueues s (endTransaction s) :=
    ((writeEndEvent_keepsQueues s).trans (readEndEvent_keepsQueues _)).trans (settleStandby_keepsQueues _)
  exact hend.trans (.ite (judgeAddress_keepsQueues read _) (setAck_keepsQueues false _))

theorem dataByteEvent_keepsQueues (b : Byte) (s : State) : KeepsQueues s (dataByteEvent b s) :=
  .ite ((withLink_keepsQueues s _).trans (setAck_keepsQueues true _)) (setAck_keepsQueues false s)

theorem handOff_keepsQueues (acked : Bool) (s : State) : KeepsQueues s (handOff acked s) :=
  .ite ((setAck_keepsQueues true s).trans (withLink_keepsQueues _ _))
    ((setAck_keepsQueues false s).trans (withLink_keepsQueues _ _))

theorem releasedByte_keepsQueues (acked : Bool) (s : State) : KeepsQueues s (releasedByte acked s) :=
  (setSent_keepsQueues _ s).trans (setAck_keepsQueues acked _)

/-- A byte goes out, and what the link records of it. -/
theorem withLink_setSent_keepsQueues (b : Byte) (l : Link) (s : State) : KeepsQueues s ((setSent b s).withLink l) :=
  (setSent_keepsQueues b s).trans (withLink_keepsQueues _ l)

theorem byteSentEvent_keepsQueues (acked : Bool) (s : State) : KeepsQueues s (byteSentEvent acked s) := by
  have hsent (b : Byte) (l : Link) : KeepsQueues s (handOff acked ((setSent b s).withLink l)) :=
    (withLink_setSent_keepsQueues b l s).trans (handOff_keepsQueues acked _)
  unfold byteSentEvent
  refine .ite ?_ (releasedByte_keepsQueues acked s)
  split
  · exact .ite (hsent _ _) (.refl s)
  · exact .ite (hsent _ _) (.refl s)
  · exact .refl s

theorem messageSentEvent_keepsQueues (acked : Bool) (s : State) : KeepsQueues s (messageSentEvent acked s) := by
  unfold messageSentEvent
  refine .ite ?_ (releasedByte_keepsQueues acked s)
  split
  · exact .ite ((withLink_setSent_keepsQueues _ _ s).trans (handOff_keepsQueues acked _)) (.refl s)
  · exact .ite (((withLink_setSent_keepsQueues _ _ s).trans (takePending_keepsQueues _)).trans
      (handOff_keepsQueues acked _)) (.refl s)
  · exact .refl s

theorem linkReleaseEvent_keepsQueues (lowFor : Nat) (s : State) : KeepsQueues s (linkReleaseEvent lowFor s) := by
  have hpins : KeepsQueues s (s.withPins { s.pins with lrelLowUntil := s.now + lowFor }) := .of_same rfl rfl rfl
  unfold linkReleaseEvent
  dsimp only
  split
  · exact hpins
  · exact hpins.trans (withLink_keepsQueues _ _)

theorem hostRequest_keepsQueues (kind : ReqKind) (tag : Byte) (p : List Byte) (s : State) :
    KeepsQueues s (hostRequest kind tag p s) := by
  unfold hostRequest
  refine (addressEvent_keepsQueues s.link.address false s).trans ?_
  dsimp only
  split
  · exact (withLink_keepsQueues _ _).trans (arrive_keepsQueues _ _)
  · exact .refl _

/-! ### The step -/

section
variable {s t : State}

theorem advance_keepsQueues (dt : Nat) (s : State) : KeepsQueues s (advance dt s) :=
  .ite (.of_same rfl rfl rfl) (.refl s)

/-- A command keeps the queues when its effect does: time passes before it, and standby may be entered after it. -/
theorem event_keepsQueues {dt : Nat} {f : State → State} (hf : ∀ u, KeepsQueues u (f u)) (h : event dt f s = .next t) :
    KeepsQueues s t := by
  obtain rfl : settleStandby (f (advance dt s)) = t := by simpa [event] using h
  exact ((advance_keepsQueues dt s).trans (hf _)).trans (settleStandby_keepsQueues _)

theorem exec_keepsQueues (c : Instr) (h : exec c s = .next t) : KeepsQueues s t := by
  cases c with
  | powerOn => exact event_keepsQueues (powerOnEvent_keepsQueues _) h
  | rstnAsserted => exact event_keepsQueues (rstnAssertedEvent_keepsQueues _) h
  | rstnReleased => exact event_keepsQueues rstnReleasedEvent_keepsQueues h
  | powerLoss => exact event_keepsQueues powerLossEvent_keepsQueues h
  | mountScanComplete => exact event_keepsQueues (scanCompleteEvent_keepsQueues _) h
  | mountRepairCommit => exact event_keepsQueues repairCommitEvent_keepsQueues h
  | mountReclaimErase => exact event_keepsQueues reclaimEraseEvent_keepsQueues h
  | segmentVerify => exact event_keepsQueues (segmentVerifyEvent_keepsQueues _) h
  | commit => exact event_keepsQueues commitEvent_keepsQueues h
  | segmentErased => exact event_keepsQueues segmentErasedEvent_keepsQueues h
  | addressByte => exact event_keepsQueues (addressEvent_keepsQueues _ _) h
  | writeEnd => exact event_keepsQueues writeEndEvent_keepsQueues h
  | pendingFrameTaken => exact event_keepsQueues takePending_keepsQueues h
  | messageSent => exact event_keepsQueues (messageSentEvent_keepsQueues _) h
  | readEnd => exact event_keepsQueues readEndEvent_keepsQueues h
  | linkRelease => exact event_keepsQueues (linkReleaseEvent_keepsQueues _) h
  | dataByteWritten => exact event_keepsQueues (dataByteEvent_keepsQueues _) h
  | byteSent => exact event_keepsQueues (byteSentEvent_keepsQueues _) h
  | getStatus | configure | readConfig | standby | reset | learnStart | learnStop | readStaged | store | erase
  | setCodeFlags | readCode | listCodes | send | hold | sequence | release | cancel | flush | jobStatus | disable | enable
  | clearFault | nearOn | nearOff | routeSet | routeClear | routeRead =>
    exact event_keepsQueues (hostRequest_keepsQueues _ _ _) h
  | candidateMarkBegins => exact event_keepsQueues (riseEvent_keepsQueues _) h
  | glitchLimitReached => exact event_keepsQueues (candidateEvent_keepsQueues _) h
  | markEnds => exact event_keepsQueues (fallEvent_keepsQueues _) h
  | envelopeMarkEnd => exact event_keepsQueues (takeEnvelope_keepsQueues .learn) h
  | frameGapReached => exact event_keepsQueues (gapEvent_keepsQueues _) h
  | longMark => exact event_keepsQueues (longEvent_keepsQueues _) h
  | settlingDone => exact event_keepsQueues (takeSettled_keepsQueues _) h
  | windowExpiry => exact event_keepsQueues windowEvent_keepsQueues h
  | endGapExpiry => exact event_keepsQueues endGapEvent_keepsQueues h
  | releaseTimerExpiry => exact event_keepsQueues releaseTimerEvent_keepsQueues h
  | frameStart => exact event_keepsQueues (frameStartEvent_keepsQueues _) h
  | elementEnd => exact event_keepsQueues (elementEndEvent_keepsQueues _) h
  | frameEnd => exact event_keepsQueues (frameEndEvent_keepsQueues _) h
  | pauseEnd => exact event_keepsQueues (pauseEndEvent_keepsQueues _) h
  | sendStepStart => exact event_keepsQueues (sendStepStartEvent_keepsQueues _) h
  | holdDeadlineExpiry => exact event_keepsQueues (holdDeadlineEvent_keepsQueues _) h
  | openWindowClose => exact event_keepsQueues (openWindowCloseEvent_keepsQueues _) h
  | overcurrent => exact event_keepsQueues (overcurrentEvent_keepsQueues _) h
  | maskWindowClose => exact event_keepsQueues (maskWindowCloseEvent_keepsQueues _) h
  | carrierPulseEdge => exact event_keepsQueues (pulseEdgeEvent_keepsQueues _) h
  | standbyEntry => exact event_keepsQueues settleStandby_keepsQueues h
  | wakeCompletion => exact event_keepsQueues wakeCompletionEvent_keepsQueues h

theorem step_keepsQueues (h : step s = .next t) : KeepsQueues s t := by
  unfold step at h
  split at h
  · obtain rfl : s = t := by simpa using h
    exact .refl s
  · next c rest _ =>
    have hqueue : KeepsQueues s (s.withPending rest) := .of_same rfl rfl rfl
    exact hqueue.trans (exec_keepsQueues c h)

end

/-- Settles O56: the five invariants are one, which every operation keeps. -/
theorem queuesHoldTheirJobs : Obligations.queuesHoldTheirJobs := by
  intro s t hbounded hqueued hordered hfollows hlinks hstep
  exact queuesSound_iff.1 (step_keepsQueues hstep (queuesSound_iff.2 ⟨hbounded, hqueued, hordered, hfollows, hlinks⟩))

end Sys2Proof.Machine
end

section
/-! Frames element by element (R126, R127, R136, R140, R141): the state in which the channels of a job have taken a change and
its time line stands in a phase, and what FRAME_START and ELEMENT_END make of it. -/

namespace Sys2Proof.Machine

/-- The channels taking part in a job are changed, and its time line stands in a phase (R126). -/
def onAir (id : Nat) (j : Job) (ph : PlayPhase) (f : Channel → Channel) (u : State) : State :=
  setPhase id ph (updateParticipants j f u)

section
variable {id n start d : Nat} {j : Job} {r : Record} {run : FrameRun} {u : State} {ph : PlayPhase} {f : Channel → Channel}

/-- A job on the air lives on, so standby is not entered in the step (R185). -/
theorem findJob_onAir (hj : findJob u id = some j) :
    findJob (onAir id j ph f u) id = some { j with play := j.play.map fun p => { p with phase := ph } } :=
  findJob_updateJob_same (by intro _; rfl) hj

theorem onAir_channels_get (e : Emitter) :
    (onAir id j ph f u).channels.get e = if e ∈ participants u j then f (u.channels.get e) else u.channels.get e :=
  PerEmitter.get_mapAll ..

/-! ### The masking condition at a frame start (R140, R141) -/

/-- A change of the channels that closes no mask window leaves the masking condition present. -/
theorem maskingPresent_onAir (hf : ∀ c, c.window.isPresent = true → (f c).window.isPresent = true)
    (h : maskingPresent u = true) : maskingPresent (onAir id j ph f u) = true := by
  obtain ⟨e, -, he⟩ := List.any_eq_true.1 h
  refine maskingPresent_of_window (e := e) ?_
  rw [onAir_channels_get]
  split
  · exact hf _ he
  · exact he

/-- Where the masking condition cannot end by a change of the channels, it can only rise by it (R141). -/
theorem withMasking_of_kept {g : State → State} (h : maskingPresent u = true → maskingPresent (g u) = true) :
    withMasking g u =
      if maskingPresent u = false ∧ maskingPresent (g u) = true then maskingRises (g u) else g u := by
  cases hu : maskingPresent u with
  | false => cases hg : maskingPresent (g u) <;> simp [withMasking, hu, hg]
  | true => simp [withMasking, hu, h hu]

theorem frameStarts_window_isPresent {c : Channel} (tail : Nat) (h : c.window.isPresent = true) :
    (c.frameStarts tail).window.isPresent = true := by
  unfold Channel.frameStarts
  split
  · rfl
  · exact h

theorem findJob_maskingRises (s : State) (k : Nat) : findJob (maskingRises s) k = findJob s k :=
  findJob_congr (by rw [(maskingRises_changes (b := { lrn := true, cap := true, link := true }) ⟨rfl, rfl, rfl⟩ s).ems rfl]) k

/-! ### FRAME_START -/

theorem frameStartEvent_of_gap (hj : findJob u id = some j)
    (hp : j.play = some { snapshot := some r, stepFrames := n, phase := .gap start }) :
    frameStartEvent id u =
      if start ≤ u.now then startFrame j { snapshot := some r, stepFrames := n, phase := .gap start } r start u else u := by
  simp only [frameStartEvent, hj, hp]

/-- What a channel taking part does at the start of a frame whose mark 0 lasts `d` µs. -/
def frameBegun (r : Record) (d start : Nat) (u : State) (c : Channel) : Channel :=
  (c.frameStarts u.opc.params.maskTail).startMark r d start

/-- A frame has started: its mark 0 is on the air (R126, R127). -/
def frameOnAir (id : Nat) (j : Job) (r : Record) (d start : Nat) (u : State) : State :=
  onAir id j (.frame { start := start, element := 0, stop := start + us d }) (frameBegun r d start u) u

theorem startFrame_eq (hid : j.id = id) (hd : (r.frameDurations (n + 1)).head? = some d) (ph : PlayPhase) :
    startFrame j { snapshot := some r, stepFrames := n, phase := ph } r start u =
      if maskingPresent u = false ∧ maskingPresent (frameOnAir id j r d start u) = true then
        maskingRises (frameOnAir id j r d start u)
      else frameOnAir id j r d start u := by
  have hmark : Play.durations { snapshot := some r, stepFrames := n, phase := ph } = r.frameDurations (n + 1) := rfl
  have hkept : maskingPresent u = true → maskingPresent (frameOnAir id j r d start u) = true :=
    maskingPresent_onAir fun c => frameStarts_window_isPresent (c := c) u.opc.params.maskTail
  simp only [startFrame, hmark, List.headD_eq_head?_getD, hd, Option.getD_some, hid]
  exact withMasking_of_kept (g := fun s => frameOnAir id j r d start s) hkept

theorem exec_frameStart_due {dt : Nat} {s : State} (hj : findJob (advance dt s) id = some j)
    (hp : j.play = some { snapshot := some r, stepFrames := n, phase := .gap start })
    (hd : (r.frameDurations (n + 1)).head? = some d) (hdue : start ≤ (advance dt s).now) :
    let t := frameOnAir id j r d start (advance dt s)
    exec (.frameStart dt id) s =
      .next (if maskingPresent (advance dt s) = false ∧ maskingPresent t = true then maskingRises t else t) := by
  intro t
  have hlive : findJob t id = some _ := findJob_onAir hj
  have hexec : exec (.frameStart dt id) s = .next (settleStandby (frameStartEvent id (advance dt s))) := rfl
  rw [hexec, frameStartEvent_of_gap hj hp, if_pos hdue, startFrame_eq (id_of_findJob hj) hd]
  split
  · rw [settleStandby_of_findJob ((findJob_maskingRises _ _).trans hlive)]
  · rw [settleStandby_of_findJob hlive]

theorem exec_frameStart_early {dt : Nat} {s : State} (hj : findJob (advance dt s) id = some j)
    (hp : j.play = some { snapshot := some r, stepFrames := n, phase := .gap start })
    (hearly : (advance dt s).now < start) : exec (.frameStart dt id) s = .next (advance dt s) := by
  have hexec : exec (.frameStart dt id) s = .next (settleStandby (frameStartEvent id (advance dt s))) := rfl
  rw [hexec, frameStartEvent_of_gap hj hp, if_neg (not_le.2 hearly), settleStandby_of_findJob hj]

/-! ### ELEMENT_END -/

/-- The change of a channel at the end of an element: marks have even numbers, spaces odd ones (R127). -/
def elementTurn (r : Record) (d : Nat) (run : FrameRun) : Channel → Channel :=
  if run.element % 2 = 0 then fun c => c.endMark run.stop else fun c => c.startMark r d run.stop

theorem elementEndEvent_of_next (hj : findJob u id = some j)
    (hp : j.play = some { snapshot := some r, stepFrames := n, phase := .frame run })
    (hd : (r.frameDurations (n + 1))[run.element + 1]? = some d) :
    elementEndEvent id u =
      if run.stop ≤ u.now then
        onAir id j (.frame { run with element := run.element + 1, stop := run.stop + us d }) (elementTurn r d run) u
      else u := by
  simp only [elementEndEvent, hj, hp, Play.durations, hd]
  rfl

theorem elementEndEvent_of_last (hj : findJob u id = some j)
    (hp : j.play = some { snapshot := some r, stepFrames := n, phase := .frame run })
    (hd : (r.frameDurations (n + 1))[run.element + 1]? = none) : elementEndEvent id u = u := by
  simp only [elementEndEvent, hj, hp, Play.durations, hd]

theorem exec_elementEnd_due {dt : Nat} {s : State} (hj : findJob (advance dt s) id = some j)
    (hp : j.play = some { snapshot := some r, stepFrames := n, phase := .frame run })
    (hd : (r.frameDurations (n + 1))[run.element + 1]? = some d) (hdue : run.stop ≤ (advance dt s).now) :
    exec (.elementEnd dt id) s =
      .next (onAir id j (.frame { run with element := run.element + 1, stop := run.stop + us d }) (elementTurn r d run)
        (advance dt s)) := by
  have hexec : exec (.elementEnd dt id) s = .next (settleStandby (elementEndEvent id (advance dt s))) := rfl
  rw [hexec, elementEndEvent_of_next hj hp hd, if_pos hdue, settleStandby_of_findJob (findJob_onAir hj)]

/-- The last mark of a frame, and an element before its nominal end, are no matter of ELEMENT_END. -/
theorem exec_elementEnd_unchanged {dt : Nat} {s : State} (hj : findJob (advance dt s) id = some j)
    (hp : j.play = some { snapshot := some r, stepFrames := n, phase := .frame run })
    (h : (r.frameDurations (n + 1)).length ≤ run.element + 1 ∨ (advance dt s).now < run.stop) :
    exec (.elementEnd dt id) s = .next (advance dt s) := by
  have hstays : elementEndEvent id (advance dt s) = advance dt s := by
    cases hd : (r.frameDurations (n + 1))[run.element + 1]? with
    | none => exact elementEndEvent_of_last hj hp hd
    | some d =>
      obtain ⟨hlt, -⟩ := List.getElem?_eq_some_iff.1 hd
      rw [elementEndEvent_of_next hj hp hd, if_neg (by omega)]
  have hexec : exec (.elementEnd dt id) s = .next (settleStandby (elementEndEvent id (advance dt s))) := rfl
  rw [hexec, hstays, settleStandby_of_findJob hj]

end

/-- Settles O47: a frame starts by its event with the masking condition of its first near window, and each element ends by its
parity. -/
theorem framesPlayInElements : Obligations.framesPlayInElements := by
  intro dt id n start d j r run s u durations began opened aired hj
  refine ⟨fun hp hd hdue => exec_frameStart_due hj hp hd hdue, fun hp hearly => exec_frameStart_early hj hp hearly,
    fun hp hd hdue hspace => ?_, fun hp hd hdue hmark => ?_, fun hp h => exec_elementEnd_unchanged hj hp h⟩
  · rw [exec_elementEnd_due hj hp hd hdue, elementTurn, if_neg (by omega)]
    rfl
  · rw [exec_elementEnd_due hj hp hd hdue, elementTurn, if_pos hmark]
    rfl

end Sys2Proof.Machine
end

section
/-! The steps of a SEQUENCE and the deadline of a HOLD (R131 to R133, Table 8-3). -/

namespace Sys2Proof.Machine

section
variable {id n k moment slot frames d limit stop : Nat} {j : Job} {steps : List Machine.Step} {snap : Option Record} {r : Record}
  {u : State} {wasSend : Bool}

/-! ### The end of a step -/

/-- A SEND step that follows a SEND step starts its first frame at the step start (R133). -/
theorem startStep_sendAfterSend (h : findJob u id = some j) (hk : j.kind = .sequence steps)
    (hstep : steps[k - 1]? = some (.send slot n)) (hr : committedRecord u slot = some r) :
    startStep id k moment true u =
      updateJob u id fun x =>
        { x with step := k, play := some { snapshot := some r, stepFrames := 0, phase := .gap moment } } := by
  simp only [startStep, h, hk, hstep, hr]
  rfl

theorem stepEnds_last (hnext : steps[j.step]? = none) : stepEnds j steps moment wasSend u = endJob j.id .done u := by
  simp only [stepEnds, hnext]

theorem stepEnds_pause (hnext : steps[j.step]? = some (.pause d)) :
    stepEnds j steps moment wasSend u = startStep j.id (j.step + 1) moment wasSend u := by
  simp only [stepEnds, hnext]

theorem stepEnds_sendAfterPause (hnext : steps[j.step]? = some (.send slot frames)) :
    stepEnds j steps moment false u = startStep j.id (j.step + 1) moment false u := by
  simp only [stepEnds, hnext]
  rfl

/-! ### The events -/

theorem pauseEndEvent_of_pause (hj : findJob u id = some j) (hk : j.kind = .sequence steps)
    (hp : j.play = some { snapshot := snap, stepFrames := n, phase := .pause stop }) :
    pauseEndEvent id u = if stop ≤ u.now then examine (stepEnds j steps stop false u) else u := by
  simp only [pauseEndEvent, hj, hk, hp]

theorem sendStepStartEvent_of_stepGap (hj : findJob u id = some j)
    (hp : j.play = some { snapshot := snap, stepFrames := n, phase := .stepGap stop }) :
    sendStepStartEvent id u = if stop ≤ u.now then examine (startStep id (j.step + 1) stop true u) else u := by
  simp only [sendStepStartEvent, hj, hp]

theorem holdDeadlineEvent_of_hold (hj : findJob u id = some j) (hk : j.kind = .hold slot limit) :
    holdDeadlineEvent id u =
      if j.state = .active ∧ dueBy j.deadline u.now = true then examine (enterEnding id .holdLimit u) else u := by
  have hhold : j.isHold = true := by simp only [Job.isHold, hk]
  simp only [holdDeadlineEvent, hj, hhold, true_and]

end

/-- Settles O49: the events by what their job waits for, and the next step by its kind and by what its slot holds. -/
theorem stepsAndDeadlines : Obligations.stepsAndDeadlines := by
  intro dt id n stop slot frames ms limit j steps snap r s u stepped atStep hj
  have hid := id_of_findJob hj
  have hpause : exec (.pauseEnd dt id) s = .next (settleStandby (pauseEndEvent id u)) := rfl
  have hsend : exec (.sendStepStart dt id) s = .next (settleStandby (sendStepStartEvent id u)) := rfl
  have hhold : exec (.holdDeadlineExpiry dt id) s = .next (settleStandby (holdDeadlineEvent id u)) := rfl
  refine ⟨fun hk hp => ?_, fun hk hp => ?_, fun hk => ⟨fun hs hd hdue => ?_, fun h => ?_⟩⟩
  · rw [hpause, pauseEndEvent_of_pause hj hk hp]
    refine ⟨fun hdue hnext => ?_, fun hdue hnext => ?_, fun hdue hnext hr => ?_, fun hdue hnext hr => ?_, fun hearly => ?_⟩
    · rw [if_pos hdue, stepEnds_last hnext, hid]
    · rw [if_pos hdue, stepEnds_pause hnext, hid, startStep_pause hj hk hnext]
      rfl
    · rw [if_pos hdue, stepEnds_sendAfterPause hnext, hid, startStep_send hj hk hnext hr]
      rfl
    · rw [if_pos hdue, stepEnds_sendAfterPause hnext, hid, startStep_empty hj hk hnext hr]
      rfl
    · rw [if_neg (not_le.2 hearly), settleStandby_of_findJob hj]
  · rw [hsend, sendStepStartEvent_of_stepGap hj hp]
    refine ⟨fun hdue hnext hr => ?_, fun hdue hnext hr => ?_, fun hearly => ?_⟩
    · rw [if_pos hdue, startStep_sendAfterSend hj hk hnext hr]
      rfl
    · rw [if_pos hdue, startStep_empty hj hk hnext hr]
      rfl
    · rw [if_neg (not_le.2 hearly), settleStandby_of_findJob hj]
  · rw [hhold, holdDeadlineEvent_of_hold hj hk, if_pos ⟨hs, by simpa [dueBy, hd] using hdue⟩]
  · have hnot : ¬(j.state = .active ∧ dueBy j.deadline u.now = true) := by
      rintro ⟨hs, hdue⟩
      rcases h with hne | hnone | ⟨hd, hearly⟩
      · exact hne hs
      · simp [dueBy, hnone] at hdue
      · exact absurd (by simpa [dueBy, hd] using hdue) (not_le.2 hearly)
    rw [hhold, holdDeadlineEvent_of_hold hj hk, if_neg hnot, settleStandby_of_findJob hj]

end Sys2Proof.Machine
end

section
/-! Drive faults (R120, R136 to R138).  A fault hands EMITTER_FAULT over, so the link is not at rest in its step, and what the
scheduler makes of the fault keeps it so: standby is not entered (R185). -/

namespace Sys2Proof.Machine

/-! ### What the scheduler leaves of a link that is not at rest -/

theorem linkAtRest_congr {s t : State} (h : t.link = s.link) : linkAtRest t = linkAtRest s := by
  rw [linkAtRest, h, linkAtRest]

/-- An operation leaves a link that is not at rest as one that is not. -/
def KeepsLinkBusy (s t : State) : Prop := linkAtRest s = false → linkAtRest t = false

theorem KeepsLinkBusy.trans {s t u : State} (h : KeepsLinkBusy s t) (k : KeepsLinkBusy t u) : KeepsLinkBusy s u := k ∘ h

theorem KeepsLinkBusy.of_link {s t : State} (h : t.link = s.link) : KeepsLinkBusy s t := (linkAtRest_congr h).trans

theorem updateJob_keepsLinkBusy (s : State) (id : Nat) (f : Job → Job) : KeepsLinkBusy s (updateJob s id f) := .of_link rfl

/-- The end of a job leaves the link as it was or hands a JOB_END over (R113). -/
theorem endJob_keepsLinkBusy (id : Nat) (why : JobOutcome) (s : State) : KeepsLinkBusy s (endJob id why s) := by
  cases hj : findJob s id with
  | none => rw [endJob_dead hj]; exact .of_link rfl
  | some j =>
    have hlink := endJob_link (why := why) hj
    split at hlink
    · exact fun _ => (linkAtRest_congr (s := notified _ s) hlink).trans (linkAtRest_notified _ s)
    · exact .of_link hlink

theorem startStep_keepsLinkBusy (id k moment : Nat) (afterSend : Bool) (s : State) :
    KeepsLinkBusy s (startStep id k moment afterSend s) := by
  unfold startStep
  split
  · exact .of_link rfl
  · split
    · split
      · exact endJob_keepsLinkBusy _ _ _
      · exact updateJob_keepsLinkBusy _ _ _
      · split
        · exact (updateJob_keepsLinkBusy _ _ _).trans (endJob_keepsLinkBusy _ _ _)
        · exact updateJob_keepsLinkBusy _ _ _
    · exact .of_link rfl

theorem activateSlot_keepsLinkBusy (id slot : Nat) (limit : Option Nat) (s : State) :
    KeepsLinkBusy s (activateSlot id slot limit s) := by
  cases hr : committedRecord s slot with
  | none => rw [activateSlot_empty hr]; exact endJob_keepsLinkBusy _ _ _
  | some r => rw [activateSlot_record hr]; exact updateJob_keepsLinkBusy _ _ _

theorem activate_keepsLinkBusy (id : Nat) (s : State) : KeepsLinkBusy s (activate id s) := by
  cases hj : findJob s id with
  | none => simp only [activate, hj]; exact .of_link rfl
  | some j =>
    cases hk : j.kind with
    | send slot n => rw [activate_send hj hk]; exact activateSlot_keepsLinkBusy _ _ _ _
    | hold slot n => rw [activate_hold hj hk]; exact activateSlot_keepsLinkBusy _ _ _ _
    | sequence steps =>
      rw [activate_sequence hj hk]
      exact (updateJob_keepsLinkBusy _ _ _).trans (startStep_keepsLinkBusy _ _ _ _ _)

theorem examineFor_keepsLinkBusy (n : Nat) (s : State) : KeepsLinkBusy s (examineFor n s) := by
  induction n generalizing s with
  | zero => exact .of_link rfl
  | succ n ih =>
    cases hf : firstActivatable s with
    | none => rw [examineFor_of_none hf]; exact .of_link rfl
    | some id => rw [examineFor_succ_of_some hf]; exact (activate_keepsLinkBusy id s).trans (ih _)

theorem failQueued_keepsLinkBusy (e : Emitter) (why : JobOutcome) (s : State) : KeepsLinkBusy s (failQueued e why s) := by
  unfold failQueued
  generalize (s.ems.queues.get e).filter (isQueued s) = ids
  induction ids generalizing s with
  | nil => exact .of_link rfl
  | cons id ids ih => exact (endJob_keepsLinkBusy id why s).trans (ih _)

theorem enterEnding_keepsLinkBusy {s : State} {id : Nat} {j : Job} (hj : findJob s id = some j) (why : JobOutcome) :
    KeepsLinkBusy s (enterEnding id why s) := by
  rcases enterEnding_cases hj why with heq | heq <;> rw [heq]
  · exact updateJob_keepsLinkBusy _ _ _
  · exact (updateJob_keepsLinkBusy _ _ _).trans (endJob_keepsLinkBusy _ _ _)

theorem faultHead_keepsLinkBusy (e : Emitter) (s : State) : KeepsLinkBusy s (faultHead e s) := by
  rcases faultHead_cases e s with ⟨heq, -⟩ | ⟨id, j, -, hj, -, heq⟩ | ⟨id, j, why, -, -, -, heq⟩ <;> rw [heq]
  · exact .of_link rfl
  · exact enterEnding_keepsLinkBusy hj _
  · exact endJob_keepsLinkBusy id why s

theorem settleStandby_of_linkBusy {s : State} (h : linkAtRest s = false) : settleStandby s = s :=
  settleStandby_of_settled fun hdue => by simp [readyForStandby, h] at hdue

/-! ### The fault -/

/-- The channel is in FAULT and EMITTER_FAULT is handed over (R138). -/
def faultTold (e : Emitter) (kind : FaultKind) (u : State) : State :=
  notified (.emitterFault e kind)
    (updateChannel u e fun c => c.faults kind (playingFrame u e) u.opc.params.minFrameGap u.now)

theorem driveFault_eq (e : Emitter) (kind : FaultKind) (u : State) :
    driveFault e kind u = examine (faultHead e (failQueued e .failedFault (faultTold e kind u))) := rfl

/-- Standby is not entered in the step of a drive fault. -/
theorem settleStandby_driveFault (e : Emitter) (kind : FaultKind) (u : State) :
    settleStandby (driveFault e kind u) = driveFault e kind u := by
  have htold : linkAtRest (faultTold e kind u) = false := linkAtRest_notified ..
  have hscheduled : KeepsLinkBusy (faultTold e kind u) (driveFault e kind u) :=
    ((failQueued_keepsLinkBusy e .failedFault _).trans (faultHead_keepsLinkBusy e _)).trans (examineFor_keepsLinkBusy _ _)
  exact settleStandby_of_linkBusy (hscheduled htold)

section
variable (c : Channel) (kind : FaultKind) (inFrame : Bool) (gap now : Nat)

/-- A fault leaves a window that waits for the end of its frame open, or takes the fault as that end (R138, R141). -/
theorem Channel.faults_window_of_opened {tail : Nat} (h : c.window = .opened tail) :
    (c.faults kind inFrame gap now).window = if inFrame then .closing (now + tail) else .opened tail := by
  simp only [Channel.faults, h, MaskWindow.frameEndsAt]

theorem Channel.faults_window_of_closed (h : c.window = .closed) : (c.faults kind inFrame gap now).window = .closed := by
  simp only [Channel.faults, h, MaskWindow.frameEndsAt, ite_self]

end

/-- Settles O50: the two events are the fault of their kind where they find it, and a faulted channel by its fields. -/
theorem driveFaultsStopChannel : Obligations.driveFaultsStopChannel := by
  intro dt close e s u c faulted
  have hopen : exec (.openWindowClose dt e) s = .next (settleStandby (openWindowCloseEvent e u)) := rfl
  have hshort : exec (.overcurrent dt e) s = .next (settleStandby (overcurrentEvent e u)) := rfl
  have hfault (kind : FaultKind) : settleStandby (driveFault e kind u) =
      examine (faultHead e (failQueued e .failedFault (faulted kind))) := settleStandby_driveFault e kind u
  refine ⟨fun hc hdue => ?_, fun h => ?_, fun hout => ?_, fun hout => ?_, fun kind b gap now => ?_⟩
  · have hclosed : dueBy c.check.head? u.now = true := by simpa [dueBy, hc] using hdue
    rw [hopen, openWindowCloseEvent, if_pos hclosed, hfault]
  · have hstill : ¬dueBy c.check.head? u.now = true := by
      rcases h with hnone | ⟨hc, hearly⟩
      · simp [dueBy, hnone]
      · simpa [dueBy, hc] using hearly
    rw [hopen, openWindowCloseEvent, if_neg hstill]
  · rw [hshort, overcurrentEvent, if_pos hout, hfault]
  · rw [hshort, overcurrentEvent, if_neg (by simpa using hout)]
  · exact ⟨rfl, rfl, rfl, rfl, rfl, rfl, Channel.faults_window_of_closed c kind b gap now,
      fun tail => Channel.faults_window_of_opened c kind b gap now⟩

end Sys2Proof.Machine
end

section
/-! The entries of the route table while the scheduler runs (R113, R151): each stays under its index as it is, but for its
mirror link. -/

namespace Sys2Proof.Machine

/-! ### Tables -/

section
variable {α : Type}

/-- Of two writes under one key the later stands. -/
theorem Table.set_set (l : List (Nat × α)) (k : Nat) (v w : α) :
    Table.set (Table.set l k v) k w = Table.set l k w := by
  induction l with
  | nil => simp [Table.set]
  | cons p rest ih =>
    obtain ⟨a, x⟩ := p
    by_cases hka : k < a
    · simp [Table.set, hka]
    · by_cases hk : k = a
      · simp [Table.set, hk]
      · simp [Table.set, hka, hk, ih]

/-- A canonical table lists nothing below its first key. -/
theorem Table.get_below_first {a k : Nat} {x : α} {rest : List (Nat × α)} (hwf : Table.wf ((a, x) :: rest) = true)
    (hk : k < a) : Table.get ((a, x) :: rest) k = none := by
  obtain ⟨hlt, -⟩ := Table.wf_cons.1 hwf
  refine Option.eq_none_iff_forall_ne_some.2 fun v hv => ?_
  rcases List.mem_cons.1 (Table.mem_of_get hv) with heq | hmem
  · exact hk.ne (congrArg Prod.fst heq)
  · exact lt_asymm hk (hlt _ hmem)

/-- An erasure takes a write under its key along. -/
theorem Table.erase_set {l : List (Nat × α)} (hwf : Table.wf l = true) (k : Nat) (v : α) :
    Table.erase (Table.set l k v) k = Table.erase l k := by
  induction l with
  | nil => simp [Table.set, Table.erase]
  | cons p rest ih =>
    obtain ⟨a, x⟩ := p
    obtain ⟨-, hrest⟩ := Table.wf_cons.1 hwf
    by_cases hka : k < a
    · rw [Table.erase_of_get_none (Table.get_below_first hwf hka)]
      simp [Table.set, Table.erase, hka]
    · by_cases hk : k = a
      · simp [Table.set, Table.erase, hk]
      · simp [Table.set, Table.erase, hka, hk, Ne.symm hk, ih hrest]

theorem Table.get_mapValues {β : Type} (f : α → β) (l : List (Nat × α)) (k : Nat) :
    Table.get (l.map fun p => (p.1, f p.2)) k = (Table.get l k).map f := by
  induction l with
  | nil => rfl
  | cons p rest ih =>
    by_cases hk : p.1 = k
    · simp [Table.get, hk]
    · simp [Table.get, hk, ih]

end

/-! ### Entries without their links -/

/-- A route entry without its mirror link. -/
def Route.unlinked (r : Route) : Route := { r with link := none }

theorem Route.unlinked_of_none {r : Route} (h : r.link = none) : r.unlinked = r := by
  cases r
  cases h
  rfl

/-- From `s` to `t` no route entry changes but in its mirror link. -/
def KeepsEntries (s t : State) : Prop :=
  t.routes.map (fun p => (p.1, p.2.unlinked)) = s.routes.map fun p => (p.1, p.2.unlinked)

theorem KeepsEntries.of_routes {s t : State} (h : t.routes = s.routes) : KeepsEntries s t := by rw [KeepsEntries, h]

theorem KeepsEntries.trans {s t u : State} (h : KeepsEntries s t) (k : KeepsEntries t u) : KeepsEntries s u := Eq.trans k h

/-- The entry under an index is there afterwards, whatever its link. -/
theorem KeepsEntries.get {s t : State} {i : Nat} {r : Route} (h : KeepsEntries s t) (hr : Table.get s.routes i = some r) :
    ∃ q, Table.get t.routes i = some q ∧ q.unlinked = r.unlinked := by
  have hget : (Table.get t.routes i).map Route.unlinked = some r.unlinked := by
    rw [← Table.get_mapValues, h, Table.get_mapValues, hr]
    rfl
  exact Option.map_eq_some_iff.1 hget

theorem map_unlinked_clearLinks (routes : List (Nat × Route)) (id : Nat) :
    (clearLinks routes id).map (fun p => (p.1, p.2.unlinked)) = routes.map fun p => (p.1, p.2.unlinked) := by
  rw [clearLinks, List.map_map]
  refine List.map_congr_left fun p _ => Prod.ext rfl ?_
  by_cases hl : p.2.link = some id <;> simp [hl, Route.unlinked]

/-! ### The operations of the scheduler -/

theorem updateJob_keepsEntries (s : State) (id : Nat) (f : Job → Job) : KeepsEntries s (updateJob s id f) := .of_routes rfl

/-- The end of a job clears the links to it and no other field of the table (R151). -/
theorem endJob_keepsEntries (id : Nat) (why : JobOutcome) (s : State) : KeepsEntries s (endJob id why s) := by
  cases hj : findJob s id with
  | none => exact .of_routes (by rw [endJob_dead hj])
  | some j =>
    cases ho : j.origin with
    | host tag => exact .of_routes (endJob_routes_of_host hj ho)
    | route i => rw [KeepsEntries, endJob_routes_of_route hj ho, map_unlinked_clearLinks]

theorem startStep_keepsEntries (id k moment : Nat) (afterSend : Bool) (s : State) :
    KeepsEntries s (startStep id k moment afterSend s) := by
  unfold startStep
  split
  · exact .of_routes rfl
  · split
    · split
      · exact endJob_keepsEntries _ _ _
      · exact updateJob_keepsEntries _ _ _
      · split
        · exact (updateJob_keepsEntries _ _ _).trans (endJob_keepsEntries _ _ _)
        · exact updateJob_keepsEntries _ _ _
    · exact .of_routes rfl

theorem activateSlot_keepsEntries (id slot : Nat) (limit : Option Nat) (s : State) :
    KeepsEntries s (activateSlot id slot limit s) := by
  cases hr : committedRecord s slot with
  | none => rw [activateSlot_empty hr]; exact endJob_keepsEntries _ _ _
  | some r => rw [activateSlot_record hr]; exact updateJob_keepsEntries _ _ _

theorem activate_keepsEntries {s : State} {id : Nat} {j : Job} (hj : findJob s id = some j) :
    KeepsEntries s (activate id s) := by
  cases hk : j.kind with
  | send slot n => rw [activate_send hj hk]; exact activateSlot_keepsEntries _ _ _ _
  | hold slot n => rw [activate_hold hj hk]; exact activateSlot_keepsEntries _ _ _ _
  | sequence steps =>
    rw [activate_sequence hj hk]
    exact (updateJob_keepsEntries _ _ _).trans (startStep_keepsEntries _ _ _ _ _)

theorem examineFor_keepsEntries (n : Nat) (s : State) : KeepsEntries s (examineFor n s) := by
  induction n generalizing s with
  | zero => exact .of_routes rfl
  | succ n ih =>
    cases hf : firstActivatable s with
    | none => exact .of_routes (by rw [examineFor_of_none hf])
    | some id =>
      obtain ⟨j, -, hj, -⟩ := firstActivatable_eq_some hf
      rw [examineFor_succ_of_some hf]
      exact (activate_keepsEntries hj).trans (ih _)

theorem examine_keepsEntries (s : State) : KeepsEntries s (examine s) := examineFor_keepsEntries _ s

theorem enterEnding_keepsEntries {s : State} {id : Nat} {j : Job} (hj : findJob s id = some j) (why : JobOutcome) :
    KeepsEntries s (enterEnding id why s) := by
  rcases enterEnding_cases hj why with heq | heq <;> rw [heq]
  · exact updateJob_keepsEntries _ _ _
  · exact (updateJob_keepsEntries _ _ _).trans (endJob_keepsEntries _ _ _)

/-- A RELEASE of a live HOLD, by the job's state (R115). -/
def releaseHold (id : Nat) (j : Job) (s : State) : State :=
  match j.state with
  | .queued => updateJob s id fun k => { k with early := true }
  | .active => enterEnding id .released s
  | .ending _ => s

theorem releaseJob_of_hold {s : State} {id : Nat} {j : Job} (hj : findJob s id = some j) (hk : j.isHold = true) :
    releaseJob id s = releaseHold id j s := by
  cases hs : j.state with
  | queued => simp only [releaseJob_queued hj hk hs, releaseHold, hs]
  | active => simp only [releaseJob_active hj hk hs, releaseHold, hs]
  | ending why => simp only [releaseJob, hj, hk, if_true, hs, releaseHold]

theorem releaseHold_keepsEntries {s : State} {id : Nat} {j : Job} (hj : findJob s id = some j) :
    KeepsEntries s (releaseHold id j s) := by
  unfold releaseHold
  split
  · exact updateJob_keepsEntries _ _ _
  · exact enterEnding_keepsEntries hj _
  · exact .of_routes rfl

end Sys2Proof.Machine
end

section
/-! Route events (R147 to R150, R152): what an entry does in its turn, by its source, its trigger and its link. -/

namespace Sys2Proof.Machine

/-! ### The release of a linked job -/

section
variable {s : State} {i id : Nat} {r : Route} {j : Job}

theorem updateRoute_of_get (h : Table.get s.routes i = some r) (f : Route → Route) :
    updateRoute s i f = setRoute i (f r) s := by
  simp only [updateRoute, h]
  rfl

theorem routeRelease_of_unlinked (hr : Table.get s.routes i = some r) (hl : r.link = none) : routeRelease i s = s := by
  simp only [routeRelease, hr, hl]

/-- The linked HOLD is released, the queues are examined, and the entry stays with its link cleared (R150): the scheduler
leaves it under its index, so that there is an entry to clear. -/
theorem routeRelease_of_link (hr : Table.get s.routes i = some r) (hl : r.link = some id) (hj : findJob s id = some j)
    (hk : j.isHold = true) : routeRelease i s = setRoute i r.unlinked (examine (releaseHold id j s)) := by
  obtain ⟨q, hq, hqr⟩ := ((releaseHold_keepsEntries hj).trans (examine_keepsEntries _)).get hr
  calc routeRelease i s
      = updateRoute (examine (releaseHold id j s)) i Route.unlinked := by
        simp only [routeRelease, hr, hl, releaseJob_of_hold hj hk]
        rfl
    _ = setRoute i r.unlinked (examine (releaseHold id j s)) := by rw [updateRoute_of_get hq, hqr]

end

/-! ### The admission that an entry asks for -/

section
variable {s : State} {i : Nat} {r : Route}

theorem routeAdmission_refused {st : Status} (h : admissionRefusal s r.mask = some st) :
    routeAdmission i r s = notified (.routeDropped i st) s := by
  simp only [routeAdmission, h]
  rfl

theorem routeAdmission_send (h : admissionRefusal s r.mask = none) (ha : r.action = .send) :
    routeAdmission i r s = examine (admitJob (.route i) (.send r.target r.frames) r.mask r.report s) := by
  simp only [routeAdmission, h, routeKind, ha]

theorem routeAdmission_mirror (h : admissionRefusal s r.mask = none) (ha : r.action = .mirror)
    (hr : Table.get s.routes i = some r) :
    routeAdmission i r s =
      examine (setRoute i { r with link := some (nextId s.ems) }
        (admitJob (.route i) (.hold r.target (resolveLimit s r.holdLimit)) r.mask r.report s)) := by
  have hadmitted (kind : JobKind) : Table.get (admitJob (.route i) kind r.mask r.report s).routes i = some r := hr
  simp only [routeAdmission, h, routeKind, ha, updateRoute_of_get (hadmitted _)]

end

/-! ### The turn of an entry -/

theorem routeTurn_of_empty {s : State} {i : Nat} (h : Table.get s.routes i = none) (slot : Nat) (kind : Trigger) :
    routeTurn slot kind s i = s := by
  simp only [routeTurn, h]

theorem routeReleaseTurn_of_empty {s : State} {i : Nat} (h : Table.get s.routes i = none) (slot : Nat) :
    routeReleaseTurn slot s i = s := by
  simp only [routeReleaseTurn, h]

section
variable {s : State} {i slot : Nat} {kind : Trigger} {r : Route} (h : Table.get s.routes i = some r)
include h

theorem routeTurn_of_otherSource (hs : r.source ≠ slot) : routeTurn slot kind s i = s := by
  simp only [routeTurn, h, if_pos hs]

/-- An entry whose source and trigger fit and that has no link asks for its admission (R149; log entry 29). -/
theorem routeTurn_of_fitting (hs : r.source = slot) (ht : r.trigger = kind) (hl : r.link = none) :
    routeTurn slot kind s i = routeAdmission i r s := by
  simp only [routeTurn, h, if_neg (not_not.2 hs), if_pos (And.intro ht hl)]

theorem routeTurn_of_unfitting (hs : r.source = slot) (hn : ¬(r.trigger = kind ∧ r.link = none)) :
    routeTurn slot kind s i = if kind = .released then routeRelease i s else s := by
  simp only [routeTurn, h, if_neg (not_not.2 hs), if_neg hn]

theorem routeReleaseTurn_of_get :
    routeReleaseTurn slot s i = if r.source = slot then routeRelease i s else s := by
  simp only [routeReleaseTurn, h]

end

/-! ### The walk -/

section
variable {s : State}

theorem routeEvent_awake (h : s.opc.state = .awake) (slot : Nat) (kind : Trigger) :
    routeEvent slot kind s = (List.range 24).foldl (routeTurn slot kind) s := by
  simp only [routeEvent, h]
  rfl

theorem routeEvent_standbyPending (h : s.opc.state = .standbyPending) (slot : Nat) (kind : Trigger) :
    routeEvent slot kind s =
      if kind = .released then (List.range 24).foldl (routeReleaseTurn slot) s else s := by
  simp only [routeEvent, h]
  rfl

/-- No entry acts on a route event outside AWAKE and STANDBY_PENDING (R147). -/
theorem routeEvent_elsewhere (ha : s.opc.state ≠ .awake) (hp : s.opc.state ≠ .standbyPending) (slot : Nat)
    (kind : Trigger) : routeEvent slot kind s = s := by
  unfold routeEvent
  split
  · next h => exact absurd h ha
  · next h => exact absurd h hp
  · rfl

end

/-- Settles O53: the walk by the operating state, and the turn of an entry by its source, its trigger and its link. -/
theorem routesActOnPresses : Obligations.routesActOnPresses := by
  intro slot i kind r st s admitted limit released
  refine ⟨fun h => routeEvent_awake h slot kind, fun h => ⟨?_, fun hk => ?_⟩,
    fun ha hp => routeEvent_elsewhere ha hp slot kind,
    fun h => ⟨routeTurn_of_empty h slot kind, routeReleaseTurn_of_empty h slot⟩,
    fun h => ⟨fun hother => ?_, fun hs ht hl href => ?_, fun hs ht hl ha hadm => ?_, fun hs ht hl ha hadm => ?_,
      fun hs hk hl => ?_, fun hs hl ht => ?_, fun hidle => ?_, fun id j hs hl hj hk => ?_⟩⟩
  · rw [routeEvent_standbyPending h, if_pos rfl]
  · rw [routeEvent_standbyPending h, if_neg hk]
  · by_cases hs : r.source = slot
    · obtain ⟨ht, hk⟩ := hother.resolve_left (not_not.2 hs)
      rw [routeTurn_of_unfitting h hs (fun hfit => ht hfit.1), if_neg hk]
    · exact routeTurn_of_otherSource h hs
  · rw [routeTurn_of_fitting h hs ht hl, routeAdmission_refused href]
  · rw [routeTurn_of_fitting h hs ht hl, routeAdmission_send hadm ha]
    rfl
  · rw [routeTurn_of_fitting h hs ht hl, routeAdmission_mirror hadm ha h]
    rfl
  · rw [routeTurn_of_unfitting h hs (fun hfit => hl hfit.2), if_neg hk]
  · rw [routeTurn_of_unfitting h hs (fun hfit => ht hfit.1), if_pos rfl, routeRelease_of_unlinked h hl]
  · rw [routeReleaseTurn_of_get h]
    split
    · next hs => exact routeRelease_of_unlinked h (hidle.resolve_left (not_not.2 hs))
    · rfl
  · have hturn : routeTurn slot .released s i = routeRelease i s := by
      rw [routeTurn_of_unfitting h hs (fun hfit => by simp [hl] at hfit), if_pos rfl]
    refine ⟨?_, by rw [hturn, routeReleaseTurn_of_get h, if_pos hs]⟩
    rw [hturn, routeRelease_of_link h hl hj hk]
    rfl

end Sys2Proof.Machine
end

section
/-! ROUTE_SET, ROUTE_CLEAR and ROUTE_READ (R145, R146, R150). -/

namespace Sys2Proof.Machine

/-! ### The codes of a ROUTE_SET (Table 11-6) -/

theorem Trigger.ofCode_of_le {b : Byte} (h : b.toNat ≤ 2) :
    Trigger.ofCode b = some (if b = 0x00 then .pressed else if b = 0x01 then .held else .released) := by
  have hcode : b = 0x00 ∨ b = 0x01 ∨ b = 0x02 := by bv_omega
  rcases hcode with rfl | rfl | rfl <;> rfl

theorem Trigger.code_of_ofCode {b : Byte} {t : Trigger} (h : Trigger.ofCode b = some t) : b = t.code := by
  unfold Trigger.ofCode at h
  split at h
  · next hb => cases h; exact hb
  · split at h
    · next hb => cases h; exact hb
    · split at h
      · next hb => cases h; exact hb
      · cases h

theorem Trigger.code_le (t : Trigger) : t.code.toNat ≤ 2 := by cases t <;> decide

theorem RouteAction.code_of_ofCode {b : Byte} {a : RouteAction} (h : RouteAction.ofCode b = some a) : b = a.code := by
  unfold RouteAction.ofCode at h
  split at h
  · next hb => cases h; exact hb
  · split at h
    · next hb => cases h; exact hb
    · cases h

theorem reportOfCode_of_le {b : Byte} (h : b.toNat ≤ 1) : reportOfCode b = some (decide (b = 0x01)) := by
  have hcode : b = 0x00 ∨ b = 0x01 := by bv_omega
  rcases hcode with rfl | rfl <;> rfl

theorem le_of_reportOfCode {b : Byte} {x : Bool} (h : reportOfCode b = some x) : b.toNat ≤ 1 := by
  unfold reportOfCode at h
  split at h
  · next hb => rw [hb]; decide
  · split at h
    · next hb => rw [hb]; decide
    · cases h

theorem le_of_maskField {b : Byte} {m : Mask} (h : maskField b = some m) : 1 ≤ b.toNat ∧ b.toNat ≤ 15 :=
  (Option.ite_none_right_eq_some.1 h).1

/-! ### The checks of a ROUTE_SET (R145) -/

/-- The checks that both actions share, on the payload of Table 11-8. -/
def RouteFieldsOk (p : List Byte) : Prop :=
  (byteAt p 0).toNat < 24 ∧ (byteAt p 1).toNat < 128 ∧ (byteAt p 4).toNat < 128 ∧ byteAt p 1 ≠ byteAt p 4 ∧
    (byteAt p 2).toNat ≤ 2 ∧ (1 ≤ (byteAt p 5).toNat ∧ (byteAt p 5).toNat ≤ 15) ∧ (byteAt p 8).toNat ≤ 1

/-- The checks of a SEND entry. -/
def RouteSendOk (p : List Byte) : Prop := byteAt p 3 = 0x00 ∧ byteAt p 6 ≠ 0

/-- The checks of a MIRROR entry. -/
def RouteMirrorOk (p : List Byte) : Prop := byteAt p 3 = 0x01 ∧ byteAt p 2 = 0x00 ∧ (byteAt p 7).toNat ≤ 120

section
variable {p : List Byte}

/-- The index, the source and the target in their ranges, the last two different. -/
theorem RouteFieldsOk.places (h : RouteFieldsOk p) :
    (byteAt p 0).toNat < routeCount ∧ (byteAt p 1).toNat < slotCount ∧ (byteAt p 4).toNat < slotCount ∧
      (byteAt p 1).toNat ≠ (byteAt p 4).toNat := by
  obtain ⟨hindex, hsource, htarget, hne, -⟩ := h
  exact ⟨hindex, hsource, htarget, fun he => hne (BitVec.eq_of_toNat_eq he)⟩

theorem routeOf_of_send (hfields : RouteFieldsOk p) (hsend : RouteSendOk p) :
    routeOf p =
      some { source := (byteAt p 1).toNat,
             trigger := if byteAt p 2 = 0x00 then .pressed else if byteAt p 2 = 0x01 then .held else .released,
             action := .send, target := (byteAt p 4).toNat, mask := (byteAt p 5).setWidth 4,
             frames := (byteAt p 6).toNat, holdLimit := 0, report := decide (byteAt p 8 = 0x01), link := none } := by
  have hplaces := hfields.places
  obtain ⟨-, -, -, -, htrigger, ⟨hmin, hmax⟩, hreport⟩ := hfields
  obtain ⟨haction, hframes⟩ := hsend
  have haction' : RouteAction.ofCode (byteAt p 3) = some .send := by rw [haction]; rfl
  simp only [routeOf, Trigger.ofCode_of_le htrigger, haction', maskField_of_ok hmin hmax, reportOfCode_of_le hreport,
    if_pos hplaces, if_pos (toNat_ne_zero hframes)]

theorem routeOf_of_mirror (hfields : RouteFieldsOk p) (hmirror : RouteMirrorOk p) :
    routeOf p =
      some { source := (byteAt p 1).toNat, trigger := .pressed, action := .mirror, target := (byteAt p 4).toNat,
             mask := (byteAt p 5).setWidth 4, frames := 0, holdLimit := (byteAt p 7).toNat,
             report := decide (byteAt p 8 = 0x01), link := none } := by
  have hplaces := hfields.places
  obtain ⟨-, -, -, -, -, ⟨hmin, hmax⟩, hreport⟩ := hfields
  obtain ⟨haction, htrigger, hlimit⟩ := hmirror
  have haction' : RouteAction.ofCode (byteAt p 3) = some .mirror := by rw [haction]; rfl
  have htrigger' : Trigger.ofCode (byteAt p 2) = some .pressed := by rw [htrigger]; rfl
  simp only [routeOf, htrigger', haction', maskField_of_ok hmin hmax, reportOfCode_of_le hreport,
    if_pos hplaces, true_and, if_pos hlimit]

/-- A payload that describes an entry passes every check. -/
theorem checks_of_routeOf {r : Route} (h : routeOf p = some r) : RouteFieldsOk p ∧ (RouteSendOk p ∨ RouteMirrorOk p) := by
  unfold routeOf at h
  dsimp only at h
  split at h
  · next trigger action mask report htrigger haction hmask hreport =>
    have htcode := Trigger.code_of_ofCode htrigger
    have hacode := RouteAction.code_of_ofCode haction
    split at h
    · next hplaces =>
      obtain ⟨hindex, hsource, htarget, hne⟩ := hplaces
      refine ⟨⟨hindex, hsource, htarget, fun he => hne (congrArg _ he), htcode ▸ trigger.code_le,
        le_of_maskField hmask, le_of_reportOfCode hreport⟩, ?_⟩
      split at h
      · refine .inl ⟨hacode, fun hzero => ?_⟩
        simp [hzero] at h
      · split at h
        · next hmirror =>
          obtain ⟨rfl, hlimit⟩ := hmirror
          exact .inr ⟨hacode, htcode, hlimit⟩
        · cases h
    · cases h
  · cases h

theorem routeOf_eq_none (h : ¬(RouteFieldsOk p ∧ (RouteSendOk p ∨ RouteMirrorOk p))) : routeOf p = none :=
  Option.eq_none_iff_forall_ne_some.2 fun _ hr => h (checks_of_routeOf hr)

end

/-! ### The three requests as commands -/

section
variable {dt : Nat} {tag i source trigger action target mask frames limit report : Byte} {s : State}

theorem exec_routeSet_of_ready (h : PortReady .routeSet (advance dt s)) :
    exec (.routeSet dt tag i source trigger action target mask frames limit report) s =
      .next (settleStandby (ownRouteSet tag [i, source, trigger, action, target, mask, frames, limit, report]
        (found (advance dt s)))) :=
  event_of_ready h (by simp) rfl

theorem exec_routeClear_of_ready (h : PortReady .routeClear (advance dt s)) :
    exec (.routeClear dt tag i) s = .next (settleStandby (ownRouteClear tag [i] (found (advance dt s)))) :=
  event_of_ready h (by simp) rfl

theorem exec_routeRead_of_ready (h : PortReady .routeRead (advance dt s)) :
    exec (.routeRead dt tag i) s = .next (settleStandby (ownRouteRead tag [i] (found (advance dt s)))) :=
  event_of_ready h (by simp) rfl

/-- The part that found the request AWAKE stays so while a linked job is released and the table changes. -/
theorem settleStandby_withRoutes_routeRelease (tag : Byte) (u : State) (k : Nat) (x : List (Nat × Route)) :
    settleStandby ((routeRelease k (answered tag .ok [] u)).withRoutes x) =
      (routeRelease k (answered tag .ok [] u)).withRoutes x :=
  settleStandby_of_scheduler ((routeRelease_changes Blocks.scheduler_emission k _).trans (.withRoutes rfl _ x))

theorem exec_routeSet_badArgument (h : PortReady .routeSet (advance dt s))
    (hnone : routeOf [i, source, trigger, action, target, mask, frames, limit, report] = none) :
    exec (.routeSet dt tag i source trigger action target mask frames limit report) s =
      .next (answered tag .badArgument [] (advance dt s)) := by
  have hown : ownRouteSet tag [i, source, trigger, action, target, mask, frames, limit, report] (found (advance dt s)) =
      answered tag .badArgument [] (advance dt s) := by
    simp only [ownRouteSet, hnone, replyStatus_found]
  rw [exec_routeSet_of_ready h, hown, settleStandby_answered]

theorem exec_routeSet_taken {r : Route} (h : PortReady .routeSet (advance dt s))
    (hr : routeOf [i, source, trigger, action, target, mask, frames, limit, report] = some r) :
    exec (.routeSet dt tag i source trigger action target mask frames limit report) s =
      .next (setRoute i.toNat r (routeRelease i.toNat (answered tag .ok [] (advance dt s)))) := by
  have hown : ownRouteSet tag [i, source, trigger, action, target, mask, frames, limit, report] (found (advance dt s)) =
      setRoute i.toNat r (routeRelease i.toNat (answered tag .ok [] (advance dt s))) := by
    simp only [ownRouteSet, hr, replyStatus_found]
    rfl
  rw [exec_routeSet_of_ready h, hown, setRoute, settleStandby_withRoutes_routeRelease]

theorem exec_routeClear_badArgument (h : PortReady .routeClear (advance dt s)) (hi : 24 ≤ i.toNat) :
    exec (.routeClear dt tag i) s = .next (answered tag .badArgument [] (advance dt s)) := by
  have hown : ownRouteClear tag [i] (found (advance dt s)) = answered tag .badArgument [] (advance dt s) :=
    if_neg (Nat.not_lt.2 hi)
  rw [exec_routeClear_of_ready h, hown, settleStandby_answered]

theorem exec_routeClear_taken (h : PortReady .routeClear (advance dt s)) (hi : i.toNat < 24) :
    exec (.routeClear dt tag i) s =
      .next (eraseRoute i.toNat (routeRelease i.toNat (answered tag .ok [] (advance dt s)))) := by
  have hown : ownRouteClear tag [i] (found (advance dt s)) =
      eraseRoute i.toNat (routeRelease i.toNat (answered tag .ok [] (advance dt s))) := if_pos hi
  rw [exec_routeClear_of_ready h, hown, eraseRoute, settleStandby_withRoutes_routeRelease]

theorem exec_routeRead_badArgument (h : PortReady .routeRead (advance dt s)) (hi : 24 ≤ i.toNat) :
    exec (.routeRead dt tag i) s = .next (answered tag .badArgument [] (advance dt s)) := by
  have hown : ownRouteRead tag [i] (found (advance dt s)) = answered tag .badArgument [] (advance dt s) :=
    if_neg (Nat.not_lt.2 hi)
  rw [exec_routeRead_of_ready h, hown, settleStandby_answered]

theorem exec_routeRead_taken (h : PortReady .routeRead (advance dt s)) (hi : i.toNat < 24) :
    exec (.routeRead dt tag i) s =
      .next (answered tag .ok (routeBytes i.toNat (Table.get (advance dt s).routes i.toNat)) (advance dt s)) := by
  have hown : ownRouteRead tag [i] (found (advance dt s)) =
      answered tag .ok (routeBytes i.toNat (Table.get (advance dt s).routes i.toNat)) (advance dt s) := if_pos hi
  rw [exec_routeRead_of_ready h, hown, settleStandby_answered]

end

/-! ### The table after the release of a linked job -/

section
variable {s : State} {i id : Nat} {r : Route} {j : Job}

theorem routeRelease_of_noLink (h : ∀ r, Table.get s.routes i = some r → r.link = none) : routeRelease i s = s := by
  cases hr : Table.get s.routes i with
  | none => simp only [routeRelease, hr]
  | some r => exact routeRelease_of_unlinked hr (h r hr)

/-- A new entry takes the place of the one whose link the release has cleared. -/
theorem setRoute_routeRelease (hr : Table.get s.routes i = some r) (hl : r.link = some id) (hj : findJob s id = some j)
    (hk : j.isHold = true) (q : Route) :
    setRoute i q (routeRelease i s) = setRoute i q (examine (releaseHold id j s)) := by
  rw [routeRelease_of_link hr hl hj hk, setRoute, setRoute, State.withRoutes_routes, Table.set_set,
    State.withRoutes_withRoutes, setRoute]

/-- An erasure takes the entry whose link the release has cleared along. -/
theorem eraseRoute_routeRelease (hr : Table.get s.routes i = some r) (hl : r.link = some id)
    (hj : findJob s id = some j) (hk : j.isHold = true) (hwf : Table.wf s.routes = true) :
    eraseRoute i (routeRelease i s) = eraseRoute i (examine (releaseHold id j s)) := by
  have hwf' : Table.wf (examine (releaseHold id j s)).routes = true := by
    rw [← releaseJob_of_hold hj hk]
    exact ((releaseJob_beside id s).trans (examine_beside _)).routes hwf
  rw [routeRelease_of_link hr hl hj hk, eraseRoute, setRoute, State.withRoutes_routes, Table.erase_set hwf',
    State.withRoutes_withRoutes, eraseRoute]

end

theorem byte_toNat_self (b : Byte) : byte b.toNat = b := BitVec.eq_of_toNat_eq (byte_toNat b.isLt)

/-- Settles O52: each request by its checks, the link of the entry it names, and the state of the linked job. -/
theorem routeRequestsEditTable : Obligations.routeRequestsEditTable := by
  intro dt tag i source trigger action target mask frames limit report s u maskOk common sendOk mirrorOk trig noLink links
    v released sendEntry mirrorEntry
  have hunlinked (h : noLink) : routeRelease i.toNat v = v := routeRelease_of_noLink h
  refine ⟨fun hready => ⟨fun hbad => ?_, fun r hcommon hentry => ?_⟩,
    fun hready => ⟨fun hi => exec_routeClear_badArgument hready hi, fun hi hno => ?_, fun id j hi hlinks hwf => ?_⟩,
    fun hready => ⟨fun hi => exec_routeRead_badArgument hready hi, fun hi hempty => ?_, fun r hi hr => ?_⟩⟩
  · exact exec_routeSet_badArgument hready (routeOf_eq_none hbad)
  · have hr : routeOf [i, source, trigger, action, target, mask, frames, limit, report] = some r := by
      rcases hentry with ⟨hsend, rfl⟩ | ⟨hmirror, rfl⟩
      · exact routeOf_of_send hcommon hsend
      · exact routeOf_of_mirror hcommon hmirror
    rw [exec_routeSet_taken hready hr]
    refine ⟨fun hno => ?_, fun id j hlinks => ?_⟩
    · rw [hunlinked hno]
      rfl
    · obtain ⟨⟨q, hq, hl⟩, hj, hk⟩ := hlinks
      rw [setRoute_routeRelease (s := v) hq hl hj hk]
      rfl
  · rw [exec_routeClear_taken hready hi, hunlinked hno]
    rfl
  · obtain ⟨⟨q, hq, hl⟩, hj, hk⟩ := hlinks
    rw [exec_routeClear_taken hready hi, eraseRoute_routeRelease (s := v) hq hl hj hk hwf]
    rfl
  · rw [exec_routeRead_taken hready hi, hempty, routeBytes, byte_toNat_self]
  · rw [exec_routeRead_taken hready hi, hr, routeBytes, byte_toNat_self]

end Sys2Proof.Machine
end

section
/-! What a notification makes of the link (R163, R164), and what any number of them leaves: the places and the bytes stay within
their bounds, and nothing but the queue, the missed count and the sequence number changes. -/

namespace Sys2Proof.Machine

section
variable {l m : Link}

/-- The bounds of `PlacesBounded` on a link record. -/
def Link.PlacesOk (l : Link) : Prop :=
  l.queue.length + l.reservedPlaces ≤ maxMessages ∧ l.inbound.length ≤ maxInbound ∧ l.missed ≤ 255

/-- A reservation is that of its frame (R162). -/
def Held.Sound (h : Held) : Prop := h.frame.ok ∧ h.size = h.frame.replySize ∧ h.bytes ≤ h.size

/-- The bounds of `BytesBounded` on a link record. -/
def Link.BytesOk (l : Link) : Prop :=
  queueBytes l.queue + l.reservedBytes ≤ maxBytes ∧ ∀ h, l.held = some h → h.Sound

theorem placesBounded_iff {s : State} : PlacesBounded s ↔ s.link.PlacesOk := Iff.rfl

theorem bytesBounded_iff {s : State} : BytesBounded s ↔ s.link.BytesOk := Iff.rfl

@[simp] theorem queueBytes_append (q r : List Message) : queueBytes (q ++ r) = queueBytes q + queueBytes r := by
  induction q with
  | nil => simp [queueBytes]
  | cons m q ih => simp only [List.cons_append, queueBytes, ih]; omega

@[simp] theorem queueBytes_singleton (m : Message) : queueBytes [m] = m.size := by simp [queueBytes]

theorem Link.admits_iff {n : Notification} :
    l.admits n = true ↔ (l.notification n).size ≤ l.freeBytes ∧ 1 ≤ l.freePlaces := decide_eq_true_iff

theorem Link.notify_admitted {n : Notification} (h : l.admits n = true) :
    l.notify n = { l with queue := l.queue ++ [l.notification n], missed := 0, seq := l.seq + 1 } := if_pos h

theorem Link.notify_dropped {n : Notification} (h : ¬l.admits n = true) :
    l.notify n = { l with missed := min 255 (l.missed + 1) } := if_neg h

@[simp] theorem Link.notify_held (l : Link) (n : Notification) : (l.notify n).held = l.held := by
  unfold Link.notify; split <;> rfl

/-- An admitted message fits the places left beyond the reservation, and a dropped one is counted up to 255 (R164). -/
theorem Link.PlacesOk.notify (h : l.PlacesOk) (n : Notification) : (l.notify n).PlacesOk := by
  obtain ⟨hplaces, hinbound, hmissed⟩ := h
  by_cases ha : l.admits n = true
  · obtain ⟨-, hfree⟩ := Link.admits_iff.1 ha
    rw [Link.notify_admitted ha]
    refine ⟨?_, hinbound, Nat.zero_le _⟩
    unfold Link.freePlaces at hfree
    simp only [List.length_append, List.length_singleton]
    unfold Link.reservedPlaces at *
    dsimp only
    omega
  · rw [Link.notify_dropped ha]
    exact ⟨hplaces, hinbound, Nat.min_le_left ..⟩

/-- An admitted message fits the bytes left beyond the reservation (R164). -/
theorem Link.BytesOk.notify (h : l.BytesOk) (n : Notification) : (l.notify n).BytesOk := by
  obtain ⟨hbytes, hheld⟩ := h
  refine ⟨?_, by simpa using hheld⟩
  by_cases ha : l.admits n = true
  · obtain ⟨hfits, -⟩ := Link.admits_iff.1 ha
    rw [Link.notify_admitted ha, queueBytes_append, queueBytes_singleton]
    unfold Link.freeBytes at hfits
    unfold Link.reservedBytes at *
    dsimp only
    omega
  · rw [Link.notify_dropped ha]
    exact hbytes

/-- One link record comes from another by notifications handed over one after another (R164). -/
def Told : Link → Link → Prop := Relation.ReflTransGen fun l m => ∃ n, m = l.notify n

theorem Told.notify (l : Link) (n : Notification) : Told l (l.notify n) := .single ⟨n, rfl⟩

/-- What every notification keeps, any number of them keep. -/
theorem Told.keeps {P : Link → Prop} (h : Told l m) (hP : ∀ l n, P l → P (l.notify n)) (hl : P l) : P m := by
  induction h with
  | refl => exact hl
  | tail _ hstep ih =>
    obtain ⟨n, rfl⟩ := hstep
    exact hP _ n ih

theorem Told.state (h : Told l m) : m.state = l.state :=
  h.keeps (P := fun x => x.state = l.state) (fun x n hx => (x.notify_state n).trans hx) rfl

theorem Told.held (h : Told l m) : m.held = l.held :=
  h.keeps (P := fun x => x.held = l.held) (fun x n hx => (x.notify_held n).trans hx) rfl

theorem Told.placesOk (h : Told l m) : l.PlacesOk → m.PlacesOk := h.keeps fun _ n hx => hx.notify n

theorem Told.bytesOk (h : Told l m) : l.BytesOk → m.BytesOk := h.keeps fun _ n hx => hx.notify n

end

end Sys2Proof.Machine
end

section
/-! Operations that reach the host through notifications alone: what they keep of the link, the operating state, and the
records that a reply can carry (R6, R40, R164, R170, R185). -/

namespace Sys2Proof.Machine

/-- The states in which nothing that standby waits for may be under way (R185). -/
def OpState.sleeps : OpState → Bool
  | .standby | .waking => true
  | _ => false

/-- The part sleeps, with no job, learn session, library operation or press under way (R185). -/
structure Asleep (s : State) : Prop where
  sleeps : s.opc.state.sleeps = true
  jobs : s.ems.jobs = []
  session : s.lrn.session = none
  op : s.lib.op = none
  press : s.rcg.press = none

/-- Every frame of a session is one that a context can have delivered (R40). -/
def Session.FramesOk (x : Session) : Prop := ∀ f ∈ x.frames, f.durations.length ≤ maxDurations

/-- From `s` to `t` by an operation that is handed a frame of `d` durations, or none: the link changes by notifications
alone, an open part stays open and one that sleeps asleep, and records and frames stay within their sizes. -/
structure Tells (d : Nat) (s t : State) : Prop where
  link : Told s.link t.link
  follows : PortFollowsState s →
    t.opc.state.isOpen = s.opc.state.isOpen ∧ t.opc.state.sleeps = s.opc.state.sleeps
  records : d ≤ maxDurations → RecordsBounded s → RecordsBounded t

/-- Such an operation that moreover begins nothing while the part sleeps. -/
structure Acts (d : Nat) (s t : State) : Prop extends Tells d s t where
  asleep : Asleep s → Asleep t

section
variable {d : Nat} {s t u : State}

theorem quietInStandby_iff : QuietInStandby s ↔ (s.opc.state.sleeps = true → s.link.held = none ∧ Asleep s) := by
  unfold QuietInStandby
  constructor
  · intro h hs
    obtain ⟨hheld, hjobs, hsession, hop, hpress⟩ := h (by cases hst : s.opc.state <;> simp_all [OpState.sleeps])
    exact ⟨hheld, hs, hjobs, hsession, hop, hpress⟩
  · intro h hs
    obtain ⟨hheld, hasleep⟩ := h (by rcases hs with hs | hs <;> simp [hs, OpState.sleeps])
    exact ⟨hheld, hasleep.jobs, hasleep.session, hasleep.op, hasleep.press⟩

theorem OpState.sleeps_of_isOpen {o : OpState} (h : o.isOpen = true) : o.sleeps = false := by
  cases o <;> simp_all [OpState.sleeps, OpState.isOpen]

/-- Where the link is not CLOSED the part is open (R170). -/
theorem PortFollowsState.isOpen (h : PortFollowsState s) (hl : s.link.state ≠ .closed) : s.opc.state.isOpen = true := by
  by_contra hopen
  exact hl (h.2 (by simpa using hopen))

theorem Tells.port (h : Tells d s t) (hp : PortFollowsState s) : PortFollowsState t := by
  unfold PortFollowsState at *
  rw [h.link.state, (h.follows hp).1]
  exact hp

theorem Tells.refl (s : State) : Tells d s s := ⟨.refl, fun _ => ⟨rfl, rfl⟩, fun _ => id⟩

theorem Tells.trans (h : Tells d s t) (k : Tells d t u) : Tells d s u where
  link := Relation.ReflTransGen.trans h.link k.link
  follows hp :=
    have hs := h.follows hp
    have ht := k.follows (h.port hp)
    ⟨ht.1.trans hs.1, ht.2.trans hs.2⟩
  records hd := k.records hd ∘ h.records hd

theorem Tells.ite {c : Prop} [Decidable c] (h : Tells d s t) (k : Tells d s u) : Tells d s (if c then t else u) := by
  split
  · exact h
  · exact k

theorem Tells.foldl {β : Type} {f : State → β → State} (h : ∀ s x, Tells d s (f s x)) (l : List β) (s : State) :
    Tells d s (l.foldl f s) := by
  induction l generalizing s with
  | nil => exact .refl s
  | cons x l ih => exact (h s x).trans (ih (f s x))

theorem Acts.refl (s : State) : Acts d s s := ⟨.refl s, id⟩

theorem Acts.trans (h : Acts d s t) (k : Acts d t u) : Acts d s u := ⟨h.toTells.trans k.toTells, k.asleep ∘ h.asleep⟩

theorem Acts.ite {c : Prop} [Decidable c] (h : Acts d s t) (k : Acts d s u) : Acts d s (if c then t else u) := by
  split
  · exact h
  · exact k

theorem Acts.foldl {β : Type} {f : State → β → State} (h : ∀ s x, Acts d s (f s x)) (l : List β) (s : State) :
    Acts d s (l.foldl f s) := by
  induction l generalizing s with
  | nil => exact .refl s
  | cons x l ih => exact (h s x).trans (ih (f s x))

/-- A delivered frame that is within its size whenever the records are asks for no further bound. -/
theorem Acts.of_frame {n : Nat} (h : Acts n s t) (hn : RecordsBounded s → n ≤ maxDurations) : Acts d s t :=
  ⟨⟨h.link, h.follows, fun _ hs => h.records (hn hs) hs⟩, h.asleep⟩

/-- An operation that does nothing to the link or the operating state. -/
theorem Tells.of_records (hlink : t.link = s.link) (hopc : t.opc.state = s.opc.state)
    (hrecords : d ≤ maxDurations → RecordsBounded s → RecordsBounded t) : Tells d s t :=
  ⟨by rw [hlink]; exact .refl, fun _ => by simp [hopc], hrecords⟩

theorem Tells.of_same (hlink : t.link = s.link) (hopc : t.opc.state = s.opc.state) (hlib : t.lib = s.lib)
    (hcap : t.cap = s.cap) (hlrn : t.lrn = s.lrn) : Tells d s t :=
  .of_records hlink hopc fun _ h => by unfold RecordsBounded at *; rwa [hlib, hcap, hlrn]

/-- What is not asleep may begin anything. -/
theorem Tells.acts (h : Tells d s t) (hawake : ¬Asleep s) : Acts d s t := ⟨h, fun hs => absurd hs hawake⟩

theorem Tells.acts_of_open (h : Tells d s t) (ho : s.opc.state.isOpen = true) : Acts d s t :=
  h.acts fun hs => by simpa [OpState.sleeps_of_isOpen ho] using hs.sleeps

theorem Tells.acts_of_session (h : Tells d s t) {x : Session} (hx : s.lrn.session = some x) : Acts d s t :=
  h.acts fun hs => by simp [hs.session] at hx

theorem Tells.acts_of_op (h : Tells d s t) {op : LibOp} (hop : s.lib.op = some op) : Acts d s t :=
  h.acts fun hs => by simp [hs.op] at hop

/-- An operation on blocks of which neither the link's bounds nor sleep ask anything. -/
theorem Acts.of_same (hlink : t.link = s.link) (hopc : t.opc.state = s.opc.state) (hlib : t.lib = s.lib)
    (hcap : t.cap = s.cap) (hlrn : t.lrn = s.lrn) (hems : t.ems = s.ems) (hpress : t.rcg.press = s.rcg.press) :
    Acts d s t :=
  ⟨.of_same hlink hopc hlib hcap hlrn, fun hs =>
    ⟨by rw [hopc, hs.sleeps], by rw [hems, hs.jobs], by rw [hlrn, hs.session], by rw [hlib, hs.op], by rw [hpress, hs.press]⟩⟩

/-! ### Replacing one block -/

theorem withChannels_acts (s : State) (c : PerEmitter Channel) : Acts d s (s.withChannels c) :=
  .of_same rfl rfl rfl rfl rfl rfl rfl

theorem withRoutes_acts (s : State) (r : List (Nat × Route)) : Acts d s (s.withRoutes r) :=
  .of_same rfl rfl rfl rfl rfl rfl rfl

theorem countDraw_acts (s : State) : Acts d s (countDraw s) :=
  .of_same rfl rfl rfl rfl rfl rfl rfl

theorem withEms_tells (s : State) (m : Ems) : Tells d s (s.withEms m) := .of_same rfl rfl rfl rfl rfl

/-- The scheduler's records may change as long as no job appears in an empty job table. -/
theorem withEms_acts (s : State) {m : Ems} (h : s.ems.jobs = [] → m.jobs = []) : Acts d s (s.withEms m) :=
  ⟨withEms_tells s m, fun hs => ⟨hs.sleeps, h hs.jobs, hs.session, hs.op, hs.press⟩⟩

theorem withRcg_tells (s : State) (r : Rec) : Tells d s (s.withRcg r) := .of_same rfl rfl rfl rfl rfl

theorem withRcg_acts (s : State) {r : Rec} (h : s.rcg.press = none → r.press = none) : Acts d s (s.withRcg r) :=
  ⟨withRcg_tells s r, fun hs => ⟨hs.sleeps, hs.jobs, hs.session, hs.op, h hs.press⟩⟩

theorem notify_acts (n : Notification) (s : State) : Acts d s (notify n s) :=
  ⟨⟨.notify s.link n, fun _ => ⟨rfl, rfl⟩, fun _ => id⟩, fun hs => ⟨hs.sleeps, hs.jobs, hs.session, hs.op, hs.press⟩⟩

theorem notifyIf_acts (c : Bool) (n : Notification) (s : State) : Acts d s (notifyIf c n s) :=
  .ite (notify_acts n s) (.refl s)

end

end Sys2Proof.Machine
end

section
/-! The scheduler, the routes and the Recognizer reach the host through notifications alone (R113, R138, R152, R92). -/

namespace Sys2Proof.Machine

variable {d : Nat}

/-! ### The Emission Scheduler -/

theorem updateJob_acts (s : State) (id : Nat) (f : Job → Job) : Acts d s (updateJob s id f) :=
  withEms_acts s fun h => by simp [updateJobIn, h]

theorem updateChannel_acts (s : State) (e : Emitter) (f : Channel → Channel) : Acts d s (updateChannel s e f) :=
  withChannels_acts s _

theorem tellRoutes_acts (j : Job) (s : State) : Acts d s (tellRoutes j s) := by
  unfold tellRoutes
  split
  · exact withRoutes_acts s _
  · exact .refl s

theorem endJob_acts (id : Nat) (why : JobOutcome) (s : State) : Acts d s (endJob id why s) := by
  unfold endJob
  split
  · exact .refl s
  · exact (((withChannels_acts s _).trans (withEms_acts _ fun h => congrArg (List.filter _) h)).trans
      (notifyIf_acts _ _ _)).trans (tellRoutes_acts _ _)

theorem startStep_acts (id k moment : Nat) (afterSend : Bool) (s : State) :
    Acts d s (startStep id k moment afterSend s) := by
  unfold startStep
  split
  · exact .refl s
  · split
    · split
      · exact endJob_acts _ _ s
      · exact updateJob_acts s _ _
      · split
        · exact (updateJob_acts s _ _).trans (endJob_acts _ _ _)
        · exact updateJob_acts s _ _
    · exact .refl s

theorem activateSlot_acts (id slot : Nat) (limit : Option Nat) (s : State) : Acts d s (activateSlot id slot limit s) := by
  unfold activateSlot
  split
  · exact endJob_acts _ _ s
  · exact updateJob_acts s _ _

theorem activate_acts (id : Nat) (s : State) : Acts d s (activate id s) := by
  unfold activate
  split
  · exact .refl s
  · split
    · exact activateSlot_acts _ _ _ s
    · exact activateSlot_acts _ _ _ s
    · exact (updateJob_acts s _ _).trans (startStep_acts _ _ _ _ _)

theorem examineFor_acts (n : Nat) (s : State) : Acts d s (examineFor n s) := by
  induction n generalizing s with
  | zero => exact .refl s
  | succ n ih =>
    unfold examineFor
    split
    · exact (activate_acts _ s).trans (ih _)
    · exact .refl s

theorem examine_acts (s : State) : Acts d s (examine s) := examineFor_acts _ s

theorem enterEnding_acts (id : Nat) (why : JobOutcome) (s : State) : Acts d s (enterEnding id why s) := by
  unfold enterEnding
  split
  · exact .refl s
  · exact .ite ((updateJob_acts s _ _).trans (endJob_acts _ _ _)) (updateJob_acts s _ _)

theorem cancelJob_acts (id : Nat) (s : State) : Acts d s (cancelJob id s) := by
  unfold cancelJob
  split
  · exact .refl s
  · split
    · exact endJob_acts _ _ s
    · exact enterEnding_acts _ _ s
    · exact .refl s

theorem releaseJob_acts (id : Nat) (s : State) : Acts d s (releaseJob id s) := by
  unfold releaseJob
  split
  · exact .refl s
  · refine .ite ?_ (.refl s)
    split
    · exact updateJob_acts s _ _
    · exact enterEnding_acts _ _ s
    · exact .refl s

theorem failQueued_acts (e : Emitter) (why : JobOutcome) (s : State) : Acts d s (failQueued e why s) :=
  .foldl (fun s id => endJob_acts id why s) _ s

theorem faultHead_acts (e : Emitter) (s : State) : Acts d s (faultHead e s) := by
  unfold faultHead
  split
  · exact .refl s
  · split
    · exact .refl s
    · split
      · exact .refl s
      · exact enterEnding_acts _ _ s
      · exact .ite (endJob_acts _ _ s) (.refl s)

theorem driveFault_acts (e : Emitter) (kind : FaultKind) (s : State) : Acts d s (driveFault e kind s) :=
  (((updateChannel_acts s e _).trans (notify_acts _ _)).trans
    ((failQueued_acts e _ _).trans (faultHead_acts e _))).trans (examine_acts _)

/-! ### The Route Table -/

theorem updateRoute_acts (s : State) (i : Nat) (f : Route → Route) : Acts d s (updateRoute s i f) := by
  unfold updateRoute
  split
  · exact withRoutes_acts s _
  · exact .refl s

theorem routeAdmission_tells (i : Nat) (r : Route) (s : State) : Tells d s (routeAdmission i r s) := by
  unfold routeAdmission
  split
  · exact (notify_acts _ s).toTells
  · refine Tells.trans ?_ (examine_acts _).toTells
    split
    · exact (withEms_tells s _).trans (updateRoute_acts _ _ _).toTells
    · exact withEms_tells s _

theorem routeRelease_acts (i : Nat) (s : State) : Acts d s (routeRelease i s) := by
  unfold routeRelease
  split
  · exact .refl s
  · split
    · exact .refl s
    · exact ((releaseJob_acts _ s).trans (examine_acts _)).trans (updateRoute_acts _ _ _)

theorem routeTurn_tells (slot : Nat) (k : Trigger) (s : State) (i : Nat) : Tells d s (routeTurn slot k s i) := by
  unfold routeTurn
  split
  · exact .refl s
  · exact .ite (.refl s) (.ite (routeAdmission_tells _ _ s) (.ite (routeRelease_acts _ s).toTells (.refl s)))

theorem routeReleaseTurn_acts (slot : Nat) (s : State) (i : Nat) : Acts d s (routeReleaseTurn slot s i) := by
  unfold routeReleaseTurn
  split
  · exact .refl s
  · exact .ite (routeRelease_acts _ s) (.refl s)

/-- Jobs are admitted by routes in AWAKE alone (R147). -/
theorem routeEvent_acts (slot : Nat) (k : Trigger) (s : State) : Acts d s (routeEvent slot k s) := by
  unfold routeEvent
  split
  · next hawake => exact (Tells.foldl (routeTurn_tells slot k) _ s).acts_of_open (by rw [hawake]; rfl)
  · exact .ite (.foldl (routeReleaseTurn_acts slot) _ s) (.refl s)
  · exact .refl s

/-! ### The Recognizer -/

theorem beginPress_tells (slot : Nat) (s : State) : Tells d s (beginPress slot s) :=
  ((withRcg_tells s _).trans (notifyIf_acts _ _ _).toTells).trans (routeEvent_acts _ _ _).toTells

theorem endPress_acts (p : Press) (why : ReleaseReason) (s : State) : Acts d s (endPress p why s) :=
  ((notifyIf_acts _ _ s).trans (routeEvent_acts _ _ _)).trans (withRcg_acts _ fun _ => rfl)

theorem continuePress_tells (p : Press) (s : State) : Tells d s (continuePress p s) :=
  .ite (((withRcg_tells s _).trans (notifyIf_acts _ _ _).toTells).trans (routeEvent_acts _ _ _).toTells)
    (withRcg_tells s _)

theorem actOnFrame_tells (durations : List Nat) (s : State) : Tells d s (actOnFrame durations s) := by
  unfold actOnFrame
  split
  · exact continuePress_tells _ s
  · exact .refl s
  · exact beginPress_tells _ s
  · exact (endPress_acts _ _ s).toTells.trans (beginPress_tells _ _)
  · exact (notifyIf_acts _ _ s).toTells

theorem actOnKept_tells (s : State) : Tells d s (actOnKept s) :=
  (withRcg_tells s _).trans (.foldl (fun s durations => actOnFrame_tells durations s) _ _)

/-- A wake leads from one state in which the part sleeps to the other (R186). -/
theorem beginWake_acts (cause : WakeCause) {s : State} (h : s.opc.state = .standby) : Acts d s (beginWake cause s) :=
  ⟨⟨.refl, fun _ => by simp [beginWake, h, OpState.isOpen, OpState.sleeps], fun _ => id⟩,
    fun hs => ⟨rfl, hs.jobs, hs.session, hs.op, hs.press⟩⟩

theorem standbyFrame_acts (durations : List Nat) {s : State} (h : s.opc.state = .standby) :
    Acts d s (standbyFrame durations s) := by
  have hkept : Acts d s (s.withRcg { s.rcg with kept := [durations] }) := withRcg_acts s id
  unfold standbyFrame
  split
  · exact .ite (hkept.trans (beginWake_acts _ h)) (.refl s)
  · exact .refl s

theorem recognizerTakesFrame_acts (durations : List Nat) (s : State) : Acts d s (recognizerTakesFrame durations s) := by
  unfold recognizerTakesFrame
  split
  · next h => exact (actOnFrame_tells durations s).acts_of_open (by rw [h]; rfl)
  · next h => exact (actOnFrame_tells durations s).acts_of_open (by rw [h]; rfl)
  · next h => exact standbyFrame_acts durations h
  · exact withRcg_acts s id
  · exact .refl s

theorem releaseTimerEvent_acts (s : State) : Acts d s (releaseTimerEvent s) := by
  unfold releaseTimerEvent
  split
  · exact .ite (endPress_acts _ _ s) (.refl s)
  · exact .refl s

theorem commitNews_tells (kind : NewsKind) (slot : Nat) (new : Option (Record × SlotFlags)) (s : State) :
    Tells d s (commitNews kind slot new s) := by
  unfold commitNews
  refine (withRcg_tells s { s.rcg with index := indexAfter s.rcg.index kind slot new }).trans ?_
  dsimp only
  split
  · exact .refl _
  · refine .ite (.refl _) ?_
    split
    · exact .ite (withRcg_tells _ _) (endPress_acts _ _ _).toTells
    · exact (endPress_acts _ _ _).toTells

end Sys2Proof.Machine
end

section
/-! The sizes of the capture contexts and of the records that a learn session makes (R6, R40, R43 to R51, R74). -/

namespace Sys2Proof.Machine

/-! ### A capture context -/

section
variable {c : Context} {i : Source} {t : Nat}

/-- Outside IN_FRAME no mark is one of a frame, so the buffer's bound is all that is left. -/
theorem Context.bounded_of_ne (hs : c.state ≠ .inFrame) (hb : c.buffer.length ≤ maxDurations) (he : c.entered = false) :
    c.bounded := ⟨fun h => absurd h hs, hb, fun _ => he⟩

/-- The bounds ask for the state, the buffer and the mark alone. -/
theorem Context.bounded.of_same {c' : Context} (h : c.bounded) (hs : c'.state = c.state) (hb : c'.buffer = c.buffer)
    (hm : c'.mark = c.mark) (he : c'.entered = c.entered) : c'.bounded := by
  unfold Context.bounded at *
  rwa [hs, hb, hm, he]

theorem Context.bounded_enterIdle (p : Params) (level : Bool) : (c.enterIdle i p level).bounded :=
  bounded_of_ne (by simp [Context.enterIdle]) (by simp [Context.enterIdle, Context.load, Context.cleared]) rfl

theorem Context.bounded_enterSettling (level : Bool) (now : Nat) : (c.enterSettling i level now).bounded :=
  bounded_of_ne (by simp [Context.enterSettling]) (by simp [Context.enterSettling, Context.cleared]) rfl

theorem Context.bounded_enterMasked : c.enterMasked.bounded :=
  bounded_of_ne (by simp [Context.enterMasked]) (by simp [Context.enterMasked, Context.cleared]) rfl

theorem Context.bounded_enterOff : c.enterOff.bounded :=
  bounded_of_ne (by simp [Context.enterOff]) (by simp [Context.enterOff, Context.cleared]) rfl

theorem Context.bounded_reset : Context.reset.bounded := bounded_of_ne (by decide) (Nat.zero_le _) rfl

theorem Context.bounded_afterFrame (p : Params) (level : Bool) : (c.afterFrame i p level).bounded := by
  have hidle : (c.enterIdle i p level).bounded := bounded_enterIdle p level
  unfold Context.afterFrame
  dsimp only
  split
  · split
    · exact bounded_of_ne (by simp [Context.enterIdle]) (by simp [Context.enterIdle, Context.load, Context.cleared]) rfl
    · exact hidle
  · exact hidle

theorem Context.bounded.pulse (h : c.bounded) : (c.pulse i t).bounded := by
  unfold Context.pulse
  split
  · exact h.of_same rfl rfl rfl rfl
  · exact h.of_same rfl rfl rfl rfl
  · exact h

/-- A candidate is no mark of the frame, whose last entry is a mark (R43, R44). -/
theorem Context.bounded.candidate (h : c.bounded) (hm : c.mark = none) :
    Context.bounded { c with mark := some t, entered := false } := by
  obtain ⟨hparity, hlength, hentered⟩ := h
  exact ⟨fun hs => ⟨nofun, fun _ => (hparity hs).2 (hentered (.inr hm))⟩, hlength, fun _ => rfl⟩

/-- Over a short space the last mark is taken up again, out of the buffer (R45). -/
theorem Context.bounded.joined (h : c.bounded) (hs : c.state = .inFrame) (hm : c.mark = none) (start : Nat) :
    Context.bounded { c with mark := some start, entered := true, gapFrom := none, buffer := c.buffer.dropLast } := by
  obtain ⟨hparity, hlength, hentered⟩ := h
  have hodd := (hparity hs).2 (hentered (.inr hm))
  refine ⟨fun _ => ⟨fun _ => ?_, nofun⟩, ?_, fun h => ?_⟩
  · rw [List.length_dropLast]; omega
  · rw [List.length_dropLast]; omega
  · simp [hs] at h

theorem Context.bounded.rise (h : c.bounded) : (c.rise i t).bounded := by
  unfold Context.rise
  split
  · exact h
  · exact h
  · exact h.of_same rfl rfl rfl rfl
  · split
    · split
      · exact h.pulse
      · next hm => exact (h.candidate hm).pulse
    · exact h.of_same rfl rfl rfl rfl
  · next hs =>
    split
    · exact h.pulse
    · next hm =>
      split
      · split
        · exact (h.joined hs hm _).pulse
        · exact (h.candidate hm).pulse
      · exact h

/-- A mark that ends joins a buffer of even length, which 383 is not (R40, R44). -/
theorem Context.bounded.markEnded (h : c.bounded) : (c.markEnded t).bounded := by
  obtain ⟨hparity, hlength, hentered⟩ := h
  cases hm : c.mark with
  | none =>
    rw [show c.markEnded t = c by simp [Context.markEnded, hm]]
    exact ⟨hparity, hlength, hentered⟩
  | some m =>
    cases he : c.entered with
    | true =>
      have hs : c.state = .inFrame := by
        by_contra hs
        simp [hentered (.inl hs)] at he
      have heven := (hparity hs).1 he
      rw [Context.markEnded_entered hm he]
      refine ⟨fun _ => ⟨nofun, fun _ => ?_⟩, ?_, fun _ => rfl⟩
      · rw [List.length_append, List.length_singleton]; omega
      · rw [List.length_append, List.length_singleton]; unfold maxDurations at *; omega
    | false =>
      rw [Context.markEnded_candidate hm he]
      exact ⟨fun hs => ⟨fun ht => by simp [he] at ht, (hparity hs).2⟩, hlength, fun _ => he⟩

theorem Context.bounded.fall (h : c.bounded) : (c.fall i t).bounded := by
  unfold Context.fall
  split
  · exact h
  · exact h
  · exact h.of_same rfl rfl rfl rfl
  all_goals
    split
    · cases i <;> exact h.of_same rfl rfl rfl rfl
    · cases i with
      | sense => exact h.markEnded
      | learn =>
        dsimp only
        split
        · exact h.of_same rfl rfl rfl rfl
        · exact h

theorem Context.bounded.envelopeEnded (h : c.bounded) : c.envelopeEnded.bounded := by
  unfold Context.envelopeEnded
  split
  · exact h.of_same rfl rfl rfl rfl
  · split
    · exact h.markEnded
    · exact h

/-- A candidate that becomes a mark brings the space before it into the buffer, which has room as long as fewer than 192
marks are entered (R43, R44, R48). -/
theorem Context.bounded.candidateEntered (h : c.bounded) (he : c.entered = false)
    (hroom : ¬(c.state = .inFrame ∧ 192 ≤ c.marksEntered)) : c.candidateEntered.bounded := by
  obtain ⟨hparity, hlength, hentered⟩ := h
  unfold Context.candidateEntered
  split
  · next hs hm => exact ⟨fun _ => ⟨fun _ => rfl, nofun⟩, Nat.zero_le _, fun h => by simp [hm] at h⟩
  · next hs hm =>
    have hodd := (hparity hs).2 he
    have hfew : c.marksEntered < 192 := by simpa [hs] using hroom
    unfold Context.marksEntered at hfew
    refine ⟨fun _ => ⟨fun _ => ?_, nofun⟩, ?_, fun h => by simp [hs, hm] at h⟩
    · rw [List.length_append, List.length_singleton]; omega
    · rw [List.length_append, List.length_singleton]; unfold maxDurations; omega
  · exact ⟨hparity, hlength, hentered⟩

theorem Context.entered_of_candidateReached {active : Bool} {now : Nat} (h : c.candidateReached i active now = true) :
    c.entered = false := by
  by_contra he
  simp [Context.candidateReached, Context.candidateDue, he] at h

end

/-! ### The record of a session (R72 to R75) -/

theorem length_pairsOf_le (l : List Nat) : 2 * (pairsOf l).length ≤ l.length + 1 := by
  fun_induction pairsOf l with
  | case1 => simp
  | case2 m => simp
  | case3 m sp rest ih => simp only [List.length_cons]; omega

theorem length_framePairs_le (table : List (Nat × Nat)) {f : Frame} (h : f.durations.length ≤ maxDurations) :
    (framePairs table f).length ≤ 192 := by
  have hpairs := length_pairsOf_le (f.durations.map (classNumber table))
  rw [List.length_map] at hpairs
  unfold framePairs
  unfold maxDurations at h
  omega

/-- The body is the pair list of a frame, and a repeat part has 32 pairs at most (R74). -/
theorem length_bodyAndRepeat {lists : List (List Pair)} {body later : List Pair}
    (h : bodyAndRepeat lists = .ok (body, later)) (hl : ∀ f ∈ lists, f.length ≤ 192) :
    body.length ≤ 192 ∧ later.length ≤ 32 := by
  unfold bodyAndRepeat at h
  split at h
  · simp at h
  · obtain ⟨rfl, rfl⟩ : _ ∧ _ := by simpa using h
    exact ⟨hl _ (by simp), Nat.zero_le _⟩
  · split at h
    · split at h
      · obtain ⟨rfl, rfl⟩ : _ ∧ _ := by simpa using h
        exact ⟨hl _ (by simp), Nat.zero_le _⟩
      · simp at h
    · split at h
      · split at h
        · simp at h
        · next hlong =>
          obtain ⟨rfl, rfl⟩ : _ ∧ _ := by simpa using h
          exact ⟨hl _ (by simp), not_lt.1 hlong⟩
      · simp at h

/-- A session whose frames are within R40 reduces to a record within the largest wire size (R6). -/
theorem wireSize_of_reduce {x : Session} {r : Record} (h : x.reduce = .ok r) (hx : x.FramesOk) : r.wireSize ≤ maxWire := by
  unfold Session.reduce at h
  dsimp only at h
  split at h
  · simp at h
  · next hclasses =>
    split at h
    · simp at h
    · next body later hparts =>
      obtain rfl := Except.ok.inj h
      obtain ⟨hbody, hlater⟩ := length_bodyAndRepeat hparts fun pairs hpairs => by
        obtain ⟨f, hf, rfl⟩ := List.mem_map.1 hpairs
        exact length_framePairs_le _ (hx f hf)
      simp only [Record.wireSize, wireSizeOf, List.length_map, List.length_nil, maxWire]
      omega

end Sys2Proof.Machine
end

section
/-! The Learn Unit, the capture contexts and the masking condition reach the host through notifications alone, and keep the
sizes of contexts, sessions and the staged record (R40, R43 to R51, R55, R56, R66 to R71). -/

namespace Sys2Proof.Machine

variable {d : Nat}

/-! ### A context of the state -/

section
variable {s : State} {i : Source} {x : Context}

theorem RecordsBounded.context (h : RecordsBounded s) (i : Source) : (ctxOf s i).bounded := by
  obtain ⟨-, -, -, -, hsense, hlearn⟩ := h
  cases i with
  | sense => exact hsense
  | learn => exact hlearn

theorem RecordsBounded.setCtx (h : RecordsBounded s) (hx : x.bounded) : RecordsBounded (setCtx s i x) := by
  obtain ⟨hdirectory, hop, hstaged, hframes, hsense, hlearn⟩ := h
  cases i with
  | sense => exact ⟨hdirectory, hop, hstaged, hframes, hx, hlearn⟩
  | learn => exact ⟨hdirectory, hop, hstaged, hframes, hsense, hx⟩

theorem RecordsBounded.frames (h : RecordsBounded s) {y : Session} (hy : s.lrn.session = some y) : y.FramesOk := by
  obtain ⟨-, -, -, hframes, -, -⟩ := h
  exact hframes y hy

theorem RecordsBounded.withLrn (h : RecordsBounded s) {l : Lrn} (hstaged : ∀ r, l.staged = some r → r.wireSize ≤ maxWire)
    (hframes : ∀ y, l.session = some y → y.FramesOk) : RecordsBounded (s.withLrn l) := by
  obtain ⟨hdirectory, hop, -, -, hsense, hlearn⟩ := h
  exact ⟨hdirectory, hop, hstaged, hframes, hsense, hlearn⟩

theorem RecordsBounded.staged (h : RecordsBounded s) {r : Record} (hr : s.lrn.staged = some r) : r.wireSize ≤ maxWire := by
  obtain ⟨-, -, hstaged, -⟩ := h
  exact hstaged r hr

/-- A context takes the place of one of the state, within the bounds if that one is. -/
theorem setCtx_acts_of (h : RecordsBounded s → x.bounded) : Acts d s (setCtx s i x) :=
  ⟨.of_records rfl rfl fun _ hs => hs.setCtx (h hs), fun hs => ⟨hs.sleeps, hs.jobs, hs.session, hs.op, hs.press⟩⟩

theorem setCtx_acts (h : x.bounded) : Acts d s (setCtx s i x) := setCtx_acts_of fun _ => h

end

theorem ctxIdle_acts (i : Source) (s : State) : Acts d s (ctxIdle i s) := setCtx_acts (Context.bounded_enterIdle _ _)

theorem ctxSettling_acts (i : Source) (s : State) : Acts d s (ctxSettling i s) :=
  setCtx_acts (Context.bounded_enterSettling _ _)

theorem ctxOff_acts (i : Source) (s : State) : Acts d s (ctxOff i s) := setCtx_acts Context.bounded_enterOff

theorem ctxMasked_acts (i : Source) (s : State) : Acts d s (ctxMasked i s) :=
  .ite (.refl s) (setCtx_acts Context.bounded_enterMasked)

theorem ctxUnmasked_acts (i : Source) (s : State) : Acts d s (ctxUnmasked i s) := .ite (ctxSettling_acts i s) (.refl s)

theorem learnContextStarts_acts (s : State) : Acts d s (learnContextStarts s) := by
  have hidle := Context.bounded_enterIdle (c := ctxOf s .learn) (i := .learn) s.opc.params s.cap.rxl
  have hmasked := Context.bounded_enterMasked (c := (ctxOf s .learn).enterIdle .learn s.opc.params s.cap.rxl)
  unfold learnContextStarts
  dsimp only
  split
  · exact setCtx_acts (hmasked.of_same rfl rfl rfl rfl)
  · exact setCtx_acts (hidle.of_same rfl rfl rfl rfl)

theorem senseContextEnabled_acts (s : State) : Acts d s (senseContextEnabled s) := by
  unfold senseContextEnabled
  dsimp only
  split
  · exact setCtx_acts Context.bounded_enterMasked
  · exact setCtx_acts (Context.bounded_enterSettling _ _)

theorem senseContextMounted_acts (s : State) : Acts d s (senseContextMounted s) := by
  unfold senseContextMounted
  dsimp only
  split
  · exact setCtx_acts Context.bounded_enterMasked
  · exact setCtx_acts (Context.bounded_enterIdle _ _)

/-! ### The end of a session (R70, R71) -/

theorem detachSession_acts (x : Session) (s : State) : Acts d s (detachSession x s) := by
  have hended : Acts d s (s.withLrn { s.lrn with session := none }) :=
    ⟨.of_records rfl rfl fun _ h => h.withLrn (fun _ hr => h.staged hr) nofun,
      fun hs => ⟨hs.sleeps, hs.jobs, rfl, hs.op, hs.press⟩⟩
  unfold detachSession
  cases x.source with
  | learn => exact hended.trans (ctxOff_acts .learn _)
  | sense => exact hended

theorem failSession_acts (x : Session) (why : LearnOutcome) (carrier : Nat) (s : State) :
    Acts d s (failSession x why carrier s) := (detachSession_acts x s).trans (notify_acts _ _)

section
variable {s : State} {x : Session}

theorem RecordsBounded.withStaged (h : RecordsBounded s) {r : Record} (hr : r.wireSize ≤ maxWire) :
    RecordsBounded (s.withLrn { s.lrn with staged := some r }) :=
  h.withLrn (fun _ hr' => Option.some.inj hr' ▸ hr) fun _ hy => h.frames hy

theorem reduceSession_acts (hx : d ≤ maxDurations → RecordsBounded s → x.FramesOk) : Acts d s (reduceSession x s) := by
  unfold reduceSession
  split
  · exact failSession_acts x _ 0 s
  · next r hr =>
    have hdetached : Acts d s (detachSession x s) := detachSession_acts x s
    have hstaged : Acts d s ((detachSession x s).withLrn { (detachSession x s).lrn with staged := some r }) := by
      refine ⟨⟨hdetached.link, hdetached.follows, fun hd hs => ?_⟩, fun hs => ?_⟩
      · exact (hdetached.records hd hs).withStaged (wireSize_of_reduce hr (hx hd hs))
      · obtain ⟨hsleeps, hjobs, hsession, hop, hpress⟩ := hdetached.asleep hs
        exact ⟨hsleeps, hjobs, hsession, hop, hpress⟩
    exact hstaged.trans (notify_acts _ _)

/-! ### Deliveries to a session (R66 to R68) -/

theorem setSession_tells (hx : d ≤ maxDurations → RecordsBounded s → x.FramesOk) : Tells d s (setSession x s) :=
  .of_records rfl rfl fun hd h => h.withLrn (fun _ hr => h.staged hr) fun _ hy => Option.some.inj hy ▸ hx hd h

theorem endGapExpires_tells (hx : d ≤ maxDurations → RecordsBounded s → x.FramesOk) : Tells d s (endGapExpires x s) :=
  .ite (setSession_tells hx) (reduceSession_acts hx).toTells

theorem endGapAtOnce_tells (hx : d ≤ maxDurations → RecordsBounded s → x.FramesOk) : Tells d s (endGapAtOnce x s) :=
  .ite (endGapExpires_tells hx) (setSession_tells hx)

theorem sessionTakesFrame_tells {f : Frame} {m : Option Measurement} (hx : RecordsBounded s → x.FramesOk) :
    Tells f.durations.length s (sessionTakesFrame x f m s) := by
  unfold sessionTakesFrame
  split
  · refine .ite (.refl s) (endGapAtOnce_tells fun hf _ => ?_)
    simpa [Session.FramesOk] using hf
  · have hjoined (good : Bool) (hf : f.durations.length ≤ maxDurations) (hs : RecordsBounded s) :
        ∀ y ∈ (if good = true then x.frames ++ [f] else x.frames), y.durations.length ≤ maxDurations := by
      intro y hy
      cases good with
      | false => exact hx hs y (by simpa using hy)
      | true =>
        rcases List.mem_append.1 hy with hy | hy
        · exact hx hs y hy
        · exact List.mem_singleton.1 hy ▸ hf
    refine .ite (Acts.toTells (reduceSession_acts ?_)) (endGapAtOnce_tells ?_)
    · exact hjoined _
    · exact hjoined _

theorem session_of_attachedTo {i : Source} (h : attachedTo s i = some x) : s.lrn.session = some x := by
  unfold attachedTo at h
  split at h
  · next y hy =>
    split at h
    · rwa [Option.some.inj h] at hy
    · simp at h
  · simp at h

end

theorem learnTakesFrame_acts (i : Source) (f : Frame) (m : Option Measurement) (s : State) :
    Acts f.durations.length s (learnTakesFrame i f m s) := by
  unfold learnTakesFrame
  split
  · next x hx =>
    have hsession := session_of_attachedTo hx
    exact (sessionTakesFrame_tells fun hs => hs.frames hsession).acts_of_session hsession
  · exact .refl s

theorem learnTakesError_acts (i : Source) (e : CaptureError) (stamp : Stamp) (s : State) :
    Acts d s (learnTakesError i e stamp s) := by
  unfold learnTakesError
  split
  · exact .refl s
  · next x hx =>
    have hsession := session_of_attachedTo hx
    split
    · exact failSession_acts x _ _ s
    · refine Tells.acts_of_session (endGapAtOnce_tells ?_) hsession
      exact fun _ hs => (hs.frames hsession : x.FramesOk)

/-- A context leaves IN_FRAME by an operation that does not touch the Learn Unit, and with it the session that waited for its
frame ends (R68). -/
theorem discarding_acts (i : Source) {f : State → State} {s : State} (hf : Acts d s (f s)) (hlrn : (f s).lrn = s.lrn) :
    Acts d s (discarding i f s) := by
  unfold discarding
  split
  · next x hx =>
    have hattached : attachedTo s i = some x := by
      unfold awaiting at hx
      split at hx
      · split at hx
        · next y hy _ => rwa [Option.some.inj hx] at hy
        · simp at hx
      · simp at hx
    have hsession : (f s).lrn.session = some x := by rw [hlrn]; exact session_of_attachedTo hattached
    exact hf.trans (reduceSession_acts fun _ hs => hs.frames hsession)
  · exact hf

/-! ### The masking condition (R55, R56, R141) -/

theorem maskingRises_acts (s : State) : Acts d s (maskingRises s) := by
  have hmasked (i : Source) (s : State) : Acts d s (discarding i (ctxMasked i) s) :=
    discarding_acts i (ctxMasked_acts i s) ((ctxMasked_changes (b := { cap := true }) rfl i s).lrn rfl)
  exact (hmasked .sense s).trans (hmasked .learn _)

theorem maskingEnds_acts (s : State) : Acts d s (maskingEnds s) :=
  (ctxUnmasked_acts .sense s).trans (ctxUnmasked_acts .learn _)

theorem withMasking_acts {f : State → State} {s : State} (h : Acts d s (f s)) : Acts d s (withMasking f s) :=
  .ite (h.trans (maskingRises_acts _)) (.ite (h.trans (maskingEnds_acts _)) h)

/-! ### The events of a context -/

theorem deliverSense_acts (f : Frame) (s : State) : Acts f.durations.length s (deliverSense f s) := by
  unfold deliverSense
  split
  · exact recognizerTakesFrame_acts _ s
  · exact .ite (((countDraw_acts s).trans (recognizerTakesFrame_acts _ _)).trans (learnTakesFrame_acts _ _ _ _))
      (((countDraw_acts s).trans (learnTakesFrame_acts _ _ _ _)).trans (recognizerTakesFrame_acts _ _))

theorem deliverLearn_acts (f : Frame) (m : Option Measurement) (s : State) :
    Acts f.durations.length s (deliverLearn f m s) := by
  unfold deliverLearn
  split
  · exact .ite (learnTakesFrame_acts _ _ _ s) (learnTakesError_acts _ _ _ s)
  · exact learnTakesFrame_acts _ _ _ s

/-- A frame that ends is the buffer of its context, within the bound of R40. -/
theorem frameEnds_acts (i : Source) (s : State) : Acts d s (frameEnds i s) := by
  have hfresh {n : Nat} : Acts n s (setCtx s i ((ctxOf s i).afterFrame i s.opc.params (s.cap.level i))) :=
    setCtx_acts (Context.bounded_afterFrame _ _)
  refine Acts.of_frame (n := (ctxOf s i).frame.durations.length) ?_ fun hs => ?_
  · cases i with
    | sense => exact hfresh.trans (deliverSense_acts _ _)
    | learn => exact hfresh.trans (deliverLearn_acts _ _ _)
  · obtain ⟨-, hlength, -⟩ := hs.context i
    exact hlength

theorem captureError_acts (i : Source) (e : CaptureError) (s : State) : Acts d s (captureError i e s) :=
  (ctxSettling_acts i s).trans (learnTakesError_acts i e _ _)

theorem takeEnvelope_acts (i : Source) (s : State) : Acts d s (takeEnvelope i s) :=
  .ite (setCtx_acts_of fun hs => (hs.context i).envelopeEnded) (.refl s)

theorem takeSettled_acts (i : Source) (s : State) : Acts d s (takeSettled i s) := .ite (ctxIdle_acts i s) (.refl s)

theorem takeGap_acts (i : Source) (s : State) : Acts d s (takeGap i s) := .ite (frameEnds_acts i s) (.refl s)

theorem takeCandidate_acts (i : Source) (s : State) : Acts d s (takeCandidate i s) := by
  unfold takeCandidate
  dsimp only
  split
  · next hreached =>
    split
    · exact captureError_acts i _ s
    · next hroom =>
      exact setCtx_acts_of fun hs =>
        (hs.context i).candidateEntered (Context.entered_of_candidateReached hreached) hroom
  · exact .refl s

theorem takeLong_acts (i : Source) (s : State) : Acts d s (takeLong i s) := .ite (captureError_acts i _ s) (.refl s)

theorem catchUp_acts (i : Source) (s : State) : Acts d s (catchUp i s) := by
  have hsettle (c : Prop) [Decidable c] (s : State) : Acts d s (if c then ctxIdle i s else s) :=
    .ite (ctxIdle_acts i s) (.refl s)
  have hgap (c : Prop) [Decidable c] (s : State) : Acts d s (if c then takeGap i s else s) :=
    .ite (takeGap_acts i s) (.refl s)
  exact (((takeEnvelope_acts i s).trans (hsettle _ _)).trans (hgap _ _)).trans
    ((takeCandidate_acts i _).trans (takeLong_acts i _))

/-- An edge changes the level of its pin and one context. -/
theorem atEdge_acts {i : Source} {s : State} {x : Context} (active : Bool) (h : (ctxOf s i).bounded → x.bounded) :
    Acts d s (atEdge s i x active) := by
  have hlevel : Acts d s (setLevel i (levelFor i (ctxOf s i).invert active) s) :=
    ⟨.of_records rfl rfl fun _ => by cases i <;> exact id,
      fun hs => ⟨hs.sleeps, hs.jobs, hs.session, hs.op, hs.press⟩⟩
  have hcontext (level : Bool) : ctxOf (setLevel i level s) i = ctxOf s i := by cases i <;> rfl
  exact hlevel.trans (setCtx_acts_of fun hs => h (hcontext _ ▸ hs.context i))

theorem riseEvent_acts (i : Source) (s : State) : Acts d s (riseEvent i s) :=
  (catchUp_acts i s).trans (.ite (.refl _)
    (((atEdge_acts true fun h => h.rise).trans (takeCandidate_acts i _)).trans (takeLong_acts i _)))

theorem fallEvent_acts (i : Source) (s : State) : Acts d s (fallEvent i s) :=
  (catchUp_acts i s).trans (.ite (atEdge_acts false fun h => h.fall) (.refl _))

theorem candidateEvent_acts (i : Source) (s : State) : Acts d s (candidateEvent i s) :=
  (takeEnvelope_acts i s).trans (takeCandidate_acts i _)

theorem gapEvent_acts (i : Source) (s : State) : Acts d s (gapEvent i s) :=
  (takeEnvelope_acts i s).trans (takeGap_acts i _)

theorem longEvent_acts (i : Source) (s : State) : Acts d s (longEvent i s) :=
  (takeEnvelope_acts i s).trans (takeLong_acts i _)

theorem windowEvent_acts (s : State) : Acts d s (windowEvent s) := by
  unfold windowEvent
  split
  · exact .ite (failSession_acts _ _ _ s) (.refl s)
  · exact .refl s

theorem endGapEvent_acts (s : State) : Acts d s (endGapEvent s) := by
  unfold endGapEvent
  split
  · next x hx => exact .ite ((endGapExpires_tells fun _ hs => hs.frames hx).acts_of_session hx) (.refl s)
  · exact .refl s

end Sys2Proof.Machine
end

section
/-! The time lines of jobs, the drive, and the library's operations reach the host through notifications alone, and keep the
sizes of the library's records (R6, R21 to R28, R126 to R141). -/

namespace Sys2Proof.Machine

variable {d : Nat}

/-! ### The time lines of jobs (R126 to R133) -/

theorem setPhase_acts (id : Nat) (ph : PlayPhase) (s : State) : Acts d s (setPhase id ph s) := updateJob_acts s id _

theorem updateParticipants_acts (j : Job) (f : Channel → Channel) (s : State) : Acts d s (updateParticipants j f s) :=
  withChannels_acts s _

theorem startFrame_acts (j : Job) (p : Play) (r : Record) (start : Nat) (s : State) :
    Acts d s (startFrame j p r start s) := by
  unfold startFrame
  exact withMasking_acts ((updateParticipants_acts _ _ s).trans (setPhase_acts _ _ _))

theorem frameStartEvent_acts (id : Nat) (s : State) : Acts d s (frameStartEvent id s) := by
  unfold frameStartEvent
  split
  · exact .refl s
  · split
    · exact .ite (startFrame_acts _ _ _ _ s) (.refl s)
    · exact .refl s

theorem elementEndEvent_acts (id : Nat) (s : State) : Acts d s (elementEndEvent id s) := by
  unfold elementEndEvent
  split
  · exact .refl s
  · split
    · dsimp only
      split
      · exact .refl s
      · exact .ite ((updateParticipants_acts _ _ s).trans (setPhase_acts _ _ _)) (.refl s)
    · exact .refl s

theorem stepEnds_acts (j : Job) (steps : List Machine.Step) (moment : Nat) (wasSend : Bool) (s : State) :
    Acts d s (stepEnds j steps moment wasSend s) := by
  unfold stepEnds
  split
  · exact endJob_acts _ _ s
  · exact startStep_acts _ _ _ _ s
  · exact .ite (setPhase_acts _ _ s) (startStep_acts _ _ _ _ s)

theorem afterFrame_acts (j : Job) (p : Play) (r : Record) (run : FrameRun) (s : State) :
    Acts d s (afterFrame j p r run s) := by
  have hnext : Acts d s (nextFrame j r run s) := setPhase_acts _ _ s
  unfold afterFrame
  split
  · exact .refl s
  · exact .ite (endJob_acts _ _ s) hnext
  · split
    · exact .ite (endJob_acts _ _ s) hnext
    · exact hnext
    · split
      · exact .ite (stepEnds_acts _ _ _ _ s) hnext
      · exact hnext

theorem frameEndEvent_acts (id : Nat) (s : State) : Acts d s (frameEndEvent id s) := by
  unfold frameEndEvent
  split
  · exact .refl s
  · split
    · exact .ite ((((updateParticipants_acts _ _ s).trans (updateJob_acts _ _ _)).trans (afterFrame_acts _ _ _ _ _)).trans
        (examine_acts _)) (.refl s)
    · exact .refl s

theorem pauseEndEvent_acts (id : Nat) (s : State) : Acts d s (pauseEndEvent id s) := by
  unfold pauseEndEvent
  split
  · exact .refl s
  · split
    · exact .ite ((stepEnds_acts _ _ _ _ s).trans (examine_acts _)) (.refl s)
    · exact .refl s

theorem sendStepStartEvent_acts (id : Nat) (s : State) : Acts d s (sendStepStartEvent id s) := by
  unfold sendStepStartEvent
  split
  · exact .refl s
  · split
    · exact .ite ((startStep_acts _ _ _ _ s).trans (examine_acts _)) (.refl s)
    · exact .refl s

theorem holdDeadlineEvent_acts (id : Nat) (s : State) : Acts d s (holdDeadlineEvent id s) := by
  unfold holdDeadlineEvent
  split
  · exact .refl s
  · exact .ite ((enterEnding_acts _ _ s).trans (examine_acts _)) (.refl s)

/-! ### The drive of the emitters (R127, R136, R137, R141) -/

theorem pulseEdgeEvent_acts (e : Emitter) (s : State) : Acts d s (pulseEdgeEvent e s) := by
  unfold pulseEdgeEvent
  split
  · exact .ite (updateChannel_acts s e _) (.refl s)
  · exact .refl s

theorem maskWindowCloseEvent_acts (e : Emitter) (s : State) : Acts d s (maskWindowCloseEvent e s) := by
  unfold maskWindowCloseEvent
  split
  · exact .ite (withMasking_acts (updateChannel_acts s e _)) (.refl s)
  · exact .refl s

theorem openWindowCloseEvent_acts (e : Emitter) (s : State) : Acts d s (openWindowCloseEvent e s) :=
  .ite (driveFault_acts e _ s) (.refl s)

theorem overcurrentEvent_acts (e : Emitter) (s : State) : Acts d s (overcurrentEvent e s) :=
  .ite (driveFault_acts e _ s) (.refl s)

/-! ### The library (R21 to R28) -/

/-- The sizes of the records that the directory lists and that a STORE brings (R6). -/
def Lib.SizesOk (l : Lib) : Prop :=
  (∀ e ∈ l.directory, e.2.size ≤ maxWire) ∧ ∀ op, l.op = some op → op.bytes.length ≤ maxWire

section
variable {s : State} {l : Lib} {op : LibOp}

theorem RecordsBounded.sizes (h : RecordsBounded s) : s.lib.SizesOk := by
  obtain ⟨hdirectory, hop, -⟩ := h
  exact ⟨hdirectory, hop⟩

theorem RecordsBounded.withLib (h : RecordsBounded s) (hl : l.SizesOk) : RecordsBounded (s.withLib l) := by
  obtain ⟨-, -, hrest⟩ := h
  exact ⟨hl.1, hl.2, hrest⟩

theorem withLib_tells (h : s.lib.SizesOk → l.SizesOk) : Tells d s (s.withLib l) :=
  .of_records rfl rfl fun _ hs => hs.withLib (h hs.sizes)

/-- A library whose directory lists no record that was not listed, and whose operation has the bytes of the one in flight. -/
theorem Lib.SizesOk.of_subset {m : Lib} (h : l.SizesOk) (hd : ∀ e ∈ m.directory, e ∈ l.directory)
    (hop : ∀ op', m.op = some op' → ∃ op, l.op = some op ∧ op'.bytes = op.bytes) : m.SizesOk := by
  refine ⟨fun e he => h.1 e (hd e he), fun op' hop' => ?_⟩
  obtain ⟨op, hin, hbytes⟩ := hop op' hop'
  exact hbytes ▸ h.2 op hin

theorem segmentAgrees_tells (hop : s.lib.op = some op) (n m : Nat) : Tells d s (segmentAgrees op n m s) :=
  withLib_tells fun h => h.of_subset (fun _ => id) fun _ hop' => ⟨op, hop, by rw [← Option.some.inj hop']⟩

theorem segmentDisagrees_tells (hop : s.lib.op = some op) (k : Nat) : Tells d s (segmentDisagrees op k s) :=
  withLib_tells fun h => h.of_subset (fun _ => id) fun _ hop' => ⟨op, hop, by rw [← Option.some.inj hop']⟩

theorem segmentVerifyEvent_acts (agrees : Bool) (s : State) : Acts d s (segmentVerifyEvent agrees s) := by
  unfold segmentVerifyEvent
  split
  · exact .refl s
  · next op hop =>
    refine Tells.acts_of_op ?_ hop
    split
    · exact .ite (.ite (segmentAgrees_tells hop _ _) (segmentDisagrees_tells hop _)) (.refl s)
    · exact .refl s

theorem endOp_tells (op : LibOp) (fault : Bool) (s : State) : Tells d s (endOp op fault s) :=
  have hended : Tells d s (setOp none s) := withLib_tells fun h => h.of_subset (fun _ => id) nofun
  hended.trans (notify_acts _ _).toTells

theorem setOp_tells (h : s.lib.SizesOk → op.bytes.length ≤ maxWire) : Tells d s (setOp (some op) s) :=
  withLib_tells fun hs => ⟨hs.1, fun _ hop => Option.some.inj hop ▸ h hs⟩

/-- The directory after a commit lists the bytes that the operation brought, or fewer records (R24, R26, R27). -/
theorem sizes_commits {dir : List (Nat × DirEntry)} (hd : ∀ e ∈ dir, e.2.size ≤ maxWire)
    (hb : op.bytes.length ≤ maxWire) : ∀ e ∈ op.commits dir, e.2.size ≤ maxWire := by
  intro e he
  unfold LibOp.commits at he
  split at he
  · rcases Table.mem_set he with rfl | he
    · exact hb
    · exact hd e he
  · exact hd e (Table.mem_erase he)
  · split at he
    · next d hget =>
      rcases Table.mem_set he with rfl | he
      · exact hd (op.slot, d) (Table.mem_of_get hget)
      · exact hd e he
    · exact hd e he

theorem setDirectory_tells {dir : List (Nat × DirEntry)} (h : s.lib.SizesOk → ∀ e ∈ dir, e.2.size ≤ maxWire) :
    Tells d s (setDirectory dir s) := withLib_tells fun hs => ⟨h hs, hs.2⟩

theorem releaseOldChain_tells (old : List Nat) (h : s.lib.SizesOk → op.bytes.length ≤ maxWire) :
    Tells d s (releaseOldChain op old s) := .ite (endOp_tells op _ s) (setOp_tells h)

theorem commitEvent_acts (s : State) : Acts d s (commitEvent s) := by
  unfold commitEvent
  split
  · exact .refl s
  · next op hop =>
    refine Tells.acts_of_op (.ite ?_ (.refl s)) hop
    have htold (new : Option (Record × SlotFlags)) :
        Tells d s (commitNews op.kind.news op.slot new (setDirectory (op.commits s.lib.directory) s)) :=
      (setDirectory_tells fun h => sizes_commits h.1 (h.2 op hop)).trans (commitNews_tells _ _ _ _)
    have hrelease (new : Option (Record × SlotFlags)) (old : List Nat) : Tells d s
        (releaseOldChain op old (commitNews op.kind.news op.slot new (setDirectory (op.commits s.lib.directory) s))) := by
      refine (htold new).trans (releaseOldChain_tells old fun h => h.2 op ?_)
      rw [(commitNews_beside op.kind.news op.slot new _).lib]
      exact hop
    dsimp only
    split
    · exact (htold _).trans (endOp_tells _ _ _)
    · exact hrelease _ _
    · exact hrelease _ _

theorem eraseSegment_acts (n : Nat) (s : State) : Acts d s (eraseSegment n s) :=
  ⟨withLib_tells fun h => h.of_subset (fun _ => id) fun op hop => ⟨op, hop, rfl⟩,
    fun hs => ⟨hs.sleeps, hs.jobs, hs.session, hs.op, hs.press⟩⟩

theorem releaseNext_tells (n m : Nat) (fault : Bool) (h : s.lib.SizesOk → op.bytes.length ≤ maxWire) :
    Tells d s (releaseNext op n m fault s) := .ite (endOp_tells op fault s) (setOp_tells h)

theorem segmentErasedEvent_acts (s : State) : Acts d s (segmentErasedEvent s) := by
  unfold segmentErasedEvent
  split
  · exact .refl s
  · next op hop =>
    have hbytes (seg : Nat) (h : (eraseSegment seg s).lib.SizesOk) : op.bytes.length ≤ maxWire := h.2 op hop
    refine Tells.acts_of_op ?_ hop
    split
    · refine .ite ?_ (.refl s)
      split
      · exact (eraseSegment_acts _ s).toTells.trans (releaseNext_tells _ _ _ (hbytes _))
      · exact (eraseSegment_acts _ s).toTells.trans (releaseNext_tells _ _ _ (hbytes _))
      · exact .refl s
    · exact .refl s

end

end Sys2Proof.Machine
end

section
/-! The requests: each is answered by one reply, which fits the reply size of its kind (Table 11-2), and reaches the host
beyond that through notifications alone (R161, R178). -/

namespace Sys2Proof.Machine

/-- A request of a kind is answered: one reply joins the queue, of a size within the kind's for a payload of the kind's
length, and all else is told by notifications (R161). -/
def Answers (k : ReqKind) (p : List Byte) (s t : State) : Prop :=
  ∃ m : Message, (RecordsBounded s → lengthFits k p = true → m.size ≤ k.maxReply) ∧
    Tells 0 (s.withLink (s.link.append m)) t

section
variable {k : ReqKind} {p : List Byte} {s t u : State}

theorem Answers.tells (h : Answers k p s t) (ht : Tells 0 t u) : Answers k p s u := by
  obtain ⟨m, hm, hs⟩ := h
  exact ⟨m, hm, hs.trans ht⟩

theorem Answers.acts (h : Answers k p s t) (ht : Acts 0 t u) : Answers k p s u := h.tells ht.toTells

theorem Answers.ite {c : Prop} [Decidable c] (h : Answers k p s t) (h' : Answers k p s u) :
    Answers k p s (if c then t else u) := by
  split
  · exact h
  · exact h'

/-- A reply with bytes beyond its status (R178). -/
theorem reply_answers (tag : Byte) (st : Status) {more : List Byte}
    (h : RecordsBounded s → lengthFits k p = true → 6 + more.length ≤ k.maxReply) :
    Answers k p s (reply tag st more s) := by
  refine ⟨replyMessage tag st more, fun hs hp => ?_, .refl _⟩
  have := h hs hp
  simp only [Message.size, replyMessage, List.length_cons]
  omega

theorem replyStatus_answers (tag : Byte) (st : Status) (h : 6 ≤ k.maxReply) : Answers k p s (replyStatus tag st s) :=
  reply_answers tag st fun _ _ => h

theorem lengthFits_iff : lengthFits k p = true ↔ k.lengths.1 ≤ p.length ∧ p.length ≤ k.lengths.2 := decide_eq_true_iff

theorem length_flatMap_const {α : Type} {f : α → List Byte} {n : Nat} (hf : ∀ a, (f a).length = n) (l : List α) :
    (l.flatMap f).length = n * l.length := by
  simp [List.length_flatMap, hf, Nat.mul_comm]

end

variable {p : List Byte} {s : State} (tag : Byte)

/-! ### Operating Control -/

theorem length_statusSummary (o : OpState) (s : State) : (statusSummary o s).length = 36 := by
  have hop : (opStatus s.lib.op).length = 5 := by
    cases s.lib.op with
    | none => rfl
    | some op => cases hphase : op.phase <;> simp [opStatus, LibPhase.bytes, hphase]
  have hpress : (pressStatus s.rcg.press).length = 4 := by cases s.rcg.press <;> rfl
  have hemitters : (emitters.flatMap (emitterStatus s)).length = 16 :=
    length_flatMap_const (f := emitterStatus s) (n := 4) (fun _ => rfl) emitters
  simp only [statusSummary, List.length_append, hop, hpress, hemitters]
  rfl

theorem ownGetStatus_answers (o : OpState) : Answers .getStatus p s (ownGetStatus o tag s) :=
  reply_answers tag _ fun _ _ => by rw [length_statusSummary]; decide

theorem withOpc_tells {o : Opc} (h : o.state = s.opc.state) : Tells 0 s (s.withOpc o) := .of_same rfl h rfl rfl rfl

theorem applyPair_tells (s : State) (pair : Nat × Nat) : Tells 0 s (applyPair s pair) := by
  have hparam : Tells 0 s (s.withOpc { s.opc with params := s.opc.params.update pair.1 pair.2 }) := withOpc_tells rfl
  exact .ite (hparam.trans (discarding_acts .sense (ctxOff_acts .sense _) rfl).toTells)
    (.ite (hparam.trans (senseContextEnabled_acts _).toTells) hparam)

theorem ownConfigure_answers : Answers .configure p s (ownConfigure tag p s) := by
  unfold ownConfigure
  refine .ite (replyStatus_answers tag _ (by decide)) ?_
  split
  · exact reply_answers tag _ fun _ _ => by simp [ReqKind.maxReply]
  · exact (replyStatus_answers tag _ (by decide)).tells (.foldl applyPair_tells _ _)

theorem ownReadConfig_answers : Answers .readConfig p s (ownReadConfig tag p s) := by
  unfold ownReadConfig
  split
  · exact reply_answers tag _ fun _ _ => by simp [ReqKind.maxReply]
  · refine reply_answers tag _ fun _ hp => ?_
    obtain ⟨-, hmax⟩ := lengthFits_iff.1 hp
    rw [length_flatMap_const (n := 3) fun _ => rfl]
    simp only [ReqKind.lengths, ReqKind.maxReply] at *
    omega

/-- The part that takes a STANDBY is open, and stays so (R184). -/
theorem ownStandby_answers (hl : s.link.state ≠ .closed) : Answers .standby p s (ownStandby tag s) :=
  (replyStatus_answers tag .ok (by decide)).tells
    ⟨.refl, fun hport => by
      have ho : s.opc.state.isOpen = true := PortFollowsState.isOpen hport hl
      exact ⟨ho.symm, (OpState.sleeps_of_isOpen ho).symm⟩, fun _ => id⟩

/-! ### The Learn Unit -/

theorem beginSession_tells (source : Source) (window hint : Nat) (s : State) :
    Tells 0 s (beginSession source window hint tag s) := by
  have hsession (x : Session) (hx : x.frames = []) : Tells 0 s (s.withLrn { session := some x, staged := none }) :=
    .of_records rfl rfl fun _ h => h.withLrn nofun fun y hy f hf => by
      rw [← Option.some.inj hy, hx] at hf
      cases hf
  unfold beginSession
  cases source with
  | learn => exact (hsession _ rfl).trans (learnContextStarts_acts _).toTells
  | sense => exact hsession _ rfl

theorem ownLearnStart_answers : Answers .learnStart p s (ownLearnStart tag p s) := by
  have hstatus (st : Status) : Answers .learnStart p s (replyStatus tag st s) := replyStatus_answers tag st (by decide)
  unfold ownLearnStart
  split
  · exact hstatus _
  · exact .ite (.ite (hstatus _) ((hstatus _).tells (beginSession_tells _ _ _ _ _))) (hstatus _)

theorem ownLearnStop_answers : Answers .learnStop p s (ownLearnStop tag s) := by
  have hstatus (st : Status) : Answers .learnStop p s (replyStatus tag st s) := replyStatus_answers tag st (by decide)
  unfold ownLearnStop
  split
  · exact hstatus _
  · next x hx =>
    split
    · exact (hstatus _).acts (failSession_acts _ _ _ _)
    · exact (hstatus _).acts (reduceSession_acts fun _ hs => hs.frames hx)

theorem ownReadStaged_answers : Answers .readStaged p s (ownReadStaged tag s) := by
  unfold ownReadStaged
  split
  · next r hr =>
    refine reply_answers tag _ fun hs _ => ?_
    have hwire := hs.staged hr
    rw [Record.wireSize_eq_length_wire] at hwire
    simp only [List.length_append, List.length_cons, List.length_nil, ReqKind.maxReply, maxWire] at *
    omega
  · exact replyStatus_answers tag _ (by decide)

/-! ### The Code Library -/

/-- A refused STORE names at most a field and an item (Table 3-3). -/
theorem length_of_storeSource_error {st : Status} {more : List Byte} (h : storeSource s p = .error (st, more)) :
    more.length ≤ 2 := by
  by_cases hargs : StoreArguments p
  · cases hnamed : namedRecord s p with
    | none =>
      obtain ⟨-, rfl⟩ : _ ∧ _ := by simpa [storeSource_noStaged hargs hnamed] using h
      exact Nat.zero_le 2
    | some r =>
      cases hfault : recordFault r with
      | none => simp [storeSource_ok hargs hnamed hfault] at h
      | some item =>
        obtain ⟨-, rfl⟩ : _ ∧ _ := by simpa [storeSource_badRecord hargs hnamed hfault] using h
        exact le_refl 2
  · obtain ⟨-, rfl⟩ : _ ∧ _ := by simpa [storeSource_badArguments hargs] using h
    exact Nat.zero_le 2

/-- A valid record is within the largest wire size (R6). -/
theorem beginStore_tells {r : Record} (hr : recordFault r = none) (slot : Nat) (flags : SlotFlags) (s : State) :
    Tells 0 s (beginStore slot flags r tag s) :=
  withLib_tells fun h => ⟨h.1, fun op hop => by
    obtain ⟨-, hmax⟩ := Record.length_wire_bounds hr
    rw [← Option.some.inj hop]
    exact hmax⟩

theorem ownStore_answers : Answers .store p s (ownStore tag p s) := by
  have hstatus (st : Status) : Answers .store p s (replyStatus tag st s) := replyStatus_answers tag st (by decide)
  unfold ownStore
  refine .ite (hstatus _) ?_
  split
  · next hsource =>
    refine reply_answers tag _ fun _ _ => ?_
    have := length_of_storeSource_error hsource
    simp only [ReqKind.maxReply]
    omega
  · next hsource =>
    exact .ite (hstatus _) (.ite (hstatus _)
      ((hstatus _).tells (beginStore_tells tag (recordFault_of_storeSource hsource) _ _ _)))

/-- An ERASE or SET_CODE_FLAGS brings no bytes (R26, R27). -/
theorem beginCommit_tells (kind : LibKind) (slot : Nat) (flags : SlotFlags) (s : State) :
    Tells 0 s (beginCommit kind slot flags tag s) := setOp_tells fun _ => Nat.zero_le _

theorem ownErase_answers : Answers .erase p s (ownErase tag p s) := by
  have hstatus (st : Status) : Answers .erase p s (replyStatus tag st s) := replyStatus_answers tag st (by decide)
  unfold ownErase
  refine .ite ?_ (hstatus _)
  split
  · exact hstatus _
  · exact (hstatus _).tells (beginCommit_tells _ _ _ _ _)

theorem ownSetCodeFlags_answers : Answers .setCodeFlags p s (ownSetCodeFlags tag p s) := by
  have hstatus (st : Status) : Answers .setCodeFlags p s (replyStatus tag st s) := replyStatus_answers tag st (by decide)
  unfold ownSetCodeFlags
  dsimp only
  split
  · exact hstatus _
  · refine .ite ?_ (hstatus _)
    split
    · exact hstatus _
    · exact (hstatus _).tells (beginCommit_tells _ _ _ _ _)

/-- A chain holds no more bytes than the size of its entry (R16). -/
theorem length_chainBytes_le (l : Lib) (e : DirEntry) : (chainBytes l e).length ≤ e.size := by
  unfold chainBytes
  exact List.length_take_le ..

theorem ownReadCode_answers : Answers .readCode p s (ownReadCode tag p s) := by
  unfold ownReadCode
  refine .ite ?_ (replyStatus_answers tag _ (by decide))
  split
  · exact replyStatus_answers tag _ (by decide)
  · next e he =>
    refine reply_answers tag _ fun hs _ => ?_
    have hchain := length_chainBytes_le s.lib e
    have hsize : e.size ≤ maxWire := hs.sizes.1 _ (Table.mem_of_get he)
    simp only [List.length_append, List.length_cons, List.length_nil, ReqKind.maxReply, maxWire] at *
    omega

theorem ownListCodes_answers : Answers .listCodes p s (ownListCodes tag p s) := by
  unfold ownListCodes
  dsimp only
  split
  · next h =>
    obtain ⟨-, -, hcount⟩ := h
    refine reply_answers tag _ fun _ _ => ?_
    have hlisted : (listedSlots (byteAt p 0).toNat (byteAt p 1).toNat).length ≤ 29 := by
      simp only [listedSlots, List.length_map, List.length_range]
      omega
    rw [List.length_cons, length_flatMap_const fun slot => length_slotSummary s.lib slot]
    simp only [ReqKind.maxReply]
    omega
  · exact replyStatus_answers tag _ (by decide)

/-! ### The Emission Scheduler -/

/-- The reply of an admission and the job's entry into its queues can change places. -/
theorem reply_admitJob (st : Status) (more : List Byte) (o : Origin) (kind : JobKind) (mask : Mask) (report : Bool) :
    reply tag st more (admitJob o kind mask report s) = admitJob o kind mask report (reply tag st more s) := rfl

theorem admitHostJob_answers {k : ReqKind} (hk : 7 ≤ k.maxReply) (mask : Mask) (kind : JobKind) :
    Answers k p s (admitHostJob tag mask kind s) := by
  unfold admitHostJob
  split
  · exact replyStatus_answers tag _ (by omega)
  · rw [reply_admitJob]
    have hreply : Answers k p s (reply tag .accepted [byte (nextId s.ems)] s) := reply_answers tag .accepted fun _ _ => hk
    exact (hreply.tells (withEms_tells _ _)).acts (examine_acts _)

theorem ownSend_answers : Answers .send p s (ownSend tag p s) := by
  unfold ownSend
  split
  · exact replyStatus_answers tag _ (by decide)
  · exact .ite (admitHostJob_answers tag (by decide) _ _) (replyStatus_answers tag _ (by decide))

theorem ownHold_answers : Answers .hold p s (ownHold tag p s) := by
  unfold ownHold
  split
  · exact replyStatus_answers tag _ (by decide)
  · exact .ite (admitHostJob_answers tag (by decide) _ _) (replyStatus_answers tag _ (by decide))

theorem ownSequence_answers : Answers .sequence p s (ownSequence tag p s) := by
  unfold ownSequence
  refine .ite (replyStatus_answers tag _ (by decide)) ?_
  split
  · exact admitHostJob_answers tag (by decide) _ _
  · exact replyStatus_answers tag _ (by decide)

theorem ownRelease_answers : Answers .release p s (ownRelease tag p s) := by
  unfold ownRelease
  dsimp only
  split
  · exact ((replyStatus_answers tag _ (by decide)).acts (releaseJob_acts _ _)).acts (examine_acts _)
  · exact replyStatus_answers tag _ (by decide)

theorem ownCancel_answers : Answers .cancel p s (ownCancel tag p s) := by
  unfold ownCancel
  dsimp only
  split
  · exact ((replyStatus_answers tag _ (by decide)).acts (cancelJob_acts _ _)).acts (examine_acts _)
  · exact replyStatus_answers tag _ (by decide)

theorem ownFlush_answers : Answers .flush p s (ownFlush tag p s) := by
  unfold ownFlush
  split
  · exact replyStatus_answers tag _ (by decide)
  · exact ((reply_answers tag _ fun _ _ => le_refl 7).acts (.foldl (fun t id => cancelJob_acts id t) _ _)).acts
      (examine_acts _)

theorem length_liveStatus (s : State) (j : Job) : (liveStatus s j).length = 13 := by
  have horigin : j.origin.bytes.length = 2 := by cases j.origin <;> rfl
  simp only [liveStatus, List.length_append, horigin]
  rfl

theorem ownJobStatus_answers : Answers .jobStatus p s (ownJobStatus tag p s) := by
  unfold ownJobStatus
  split
  · exact reply_answers tag _ fun _ _ => by rw [length_liveStatus]; decide
  · split
    · exact reply_answers tag _ fun _ _ => le_refl 19
    · exact replyStatus_answers tag _ (by decide)

theorem ownEmitterControl_answers : Answers .emitterControl p s (ownEmitterControl tag p s) := by
  have hstatus (st : Status) : Answers .emitterControl p s (replyStatus tag st s) := replyStatus_answers tag st (by decide)
  have hchannel (e : Emitter) (f : Channel → Channel) :
      Answers .emitterControl p s (updateChannel (replyStatus tag .ok s) e f) :=
    (hstatus .ok).acts (updateChannel_acts _ e f)
  have hdisable (e : Emitter) : Answers .emitterControl p s (disableEmitter tag e s) := by
    have htaken : Answers .emitterControl p s
        (examine (updateChannel (failQueued e .failedOff (replyStatus tag .ok s)) e fun c => { c with mode := .off })) :=
      (((hstatus .ok).acts (failQueued_acts e _ _)).acts (updateChannel_acts _ e _)).acts (examine_acts _)
    unfold disableEmitter
    split
    · exact htaken
    · exact htaken
    · exact hstatus _
    · exact hstatus _
    · exact hstatus _
  unfold ownEmitterControl
  split
  · exact hstatus _
  · next e _ =>
    split
    · exact hdisable e
    · unfold enableEmitter
      split
      · exact hchannel e _
      · exact hstatus _
      · exact hstatus _
    · unfold clearFaultOf
      split
      · exact hchannel e _
      · exact hstatus _
    · exact hchannel e _
    · exact hchannel e _
    · exact hstatus _

/-! ### The Route Table -/

theorem ownRouteSet_answers : Answers .routeSet p s (ownRouteSet tag p s) := by
  unfold ownRouteSet
  split
  · exact replyStatus_answers tag _ (by decide)
  · exact ((replyStatus_answers tag _ (by decide)).acts (routeRelease_acts _ _)).acts (withRoutes_acts _ _)

theorem ownRouteClear_answers : Answers .routeClear p s (ownRouteClear tag p s) :=
  .ite (((replyStatus_answers tag _ (by decide)).acts (routeRelease_acts _ _)).acts (withRoutes_acts _ _))
    (replyStatus_answers tag _ (by decide))

theorem length_routeBytes (i : Nat) (r : Option Route) : (routeBytes i r).length = 11 := by cases r <;> rfl

theorem ownRouteRead_answers : Answers .routeRead p s (ownRouteRead tag p s) :=
  .ite (reply_answers tag _ fun _ _ => by rw [length_routeBytes]; decide) (replyStatus_answers tag _ (by decide))

/-! ### Taking a frame (R161, R184) -/

theorem own_answers (o : OpState) {k : ReqKind} (hk : k ≠ .reset) (hl : s.link.state ≠ .closed) :
    Answers k p s (own o k tag p s) := by
  cases k with
  | reset => exact absurd rfl hk
  | getStatus => exact ownGetStatus_answers tag o
  | configure => exact ownConfigure_answers tag
  | readConfig => exact ownReadConfig_answers tag
  | standby => exact ownStandby_answers tag hl
  | learnStart => exact ownLearnStart_answers tag
  | learnStop => exact ownLearnStop_answers tag
  | readStaged => exact ownReadStaged_answers tag
  | store => exact ownStore_answers tag
  | erase => exact ownErase_answers tag
  | setCodeFlags => exact ownSetCodeFlags_answers tag
  | readCode => exact ownReadCode_answers tag
  | listCodes => exact ownListCodes_answers tag
  | send => exact ownSend_answers tag
  | hold => exact ownHold_answers tag
  | sequence => exact ownSequence_answers tag
  | release => exact ownRelease_answers tag
  | cancel => exact ownCancel_answers tag
  | flush => exact ownFlush_answers tag
  | jobStatus => exact ownJobStatus_answers tag
  | emitterControl => exact ownEmitterControl_answers tag
  | routeSet => exact ownRouteSet_answers tag
  | routeClear => exact ownRouteClear_answers tag
  | routeRead => exact ownRouteRead_answers tag

end Sys2Proof.Machine
end

section
/-! What every command keeps of the port, the places and the bytes of the link (R159, R162 to R164, R170, R181, R185): the
taking of frames, the transactions of the port, the resets, mount and standby, and the step. -/

namespace Sys2Proof.Machine

/-- From `s` to `t` the port follows the operating state as before and nothing comes up while the part sleeps; the places of
the link keep their bounds, and so do its bytes with the records that a reply can carry. -/
structure KeepsLink (s t : State) : Prop where
  standby : PortFollowsState s → QuietInStandby s → PortFollowsState t ∧ QuietInStandby t
  places : s.link.PlacesOk → t.link.PlacesOk
  bytes : s.link.BytesOk → RecordsBounded s → t.link.BytesOk ∧ RecordsBounded t

section
variable {s t u : State}

theorem KeepsLink.refl (s : State) : KeepsLink s s := ⟨.intro, id, .intro⟩

theorem KeepsLink.trans (h : KeepsLink s t) (k : KeepsLink t u) : KeepsLink s u where
  standby hp hq :=
    have ht := h.standby hp hq
    k.standby ht.1 ht.2
  places := k.places ∘ h.places
  bytes hb hr :=
    have ht := h.bytes hb hr
    k.bytes ht.1 ht.2

theorem KeepsLink.ite {c : Prop} [Decidable c] (h : KeepsLink s t) (k : KeepsLink s u) :
    KeepsLink s (if c then t else u) := by
  split
  · exact h
  · exact k

/-- Nothing is asked of a part that does not sleep (R185). -/
theorem QuietInStandby.of_awake (h : s.opc.state.sleeps = false) : QuietInStandby s :=
  quietInStandby_iff.2 fun hs => by simp [h] at hs

/-- What is told by notifications alone, from a part that is open. -/
theorem Tells.keepsLink_of_open (h : Tells 0 s t) (ho : s.opc.state.isOpen = true) : KeepsLink s t where
  standby hp _ := ⟨h.port hp, .of_awake ((h.follows hp).2.trans (OpState.sleeps_of_isOpen ho))⟩
  places := h.link.placesOk
  bytes hb hr := ⟨h.link.bytesOk hb, h.records (Nat.zero_le _) hr⟩

theorem Acts.keepsLink (h : Acts 0 s t) : KeepsLink s t where
  standby hp hq := by
    refine ⟨h.port hp, quietInStandby_iff.2 fun ht => ?_⟩
    obtain ⟨hheld, hasleep⟩ := quietInStandby_iff.1 hq ((h.follows hp).2 ▸ ht)
    exact ⟨h.link.held.trans hheld, h.asleep hasleep⟩
  places := h.link.placesOk
  bytes hb hr := ⟨h.link.bytesOk hb, h.records (Nat.zero_le _) hr⟩

/-- A link that is not CLOSED before or after changes within its bounds. -/
theorem KeepsLink.withLink {l : Link} (hs : s.link.state ≠ .closed) (hl : l.state ≠ .closed)
    (hplaces : s.link.PlacesOk → l.PlacesOk) (hbytes : s.link.BytesOk → l.BytesOk) : KeepsLink s (s.withLink l) where
  standby hp _ := by
    have ho := PortFollowsState.isOpen hp hs
    refine ⟨?_, .of_awake (OpState.sleeps_of_isOpen ho)⟩
    simp [PortFollowsState, ho, hl]
  places := hplaces
  bytes hb hr := ⟨hbytes hb, hr⟩

/-- A change that leaves the queue, the buffer, the reservation, the missed count, and whether the link is CLOSED. -/
theorem KeepsLink.withLink_same {l : Link} (hstate : l.state = .closed ↔ s.link.state = .closed)
    (hqueue : l.queue = s.link.queue) (hinbound : l.inbound = s.link.inbound) (hheld : l.held = s.link.held)
    (hmissed : l.missed = s.link.missed) : KeepsLink s (s.withLink l) where
  standby hp hq := by
    refine ⟨hstate.trans hp, fun hs => ?_⟩
    obtain ⟨hnone, hrest⟩ := hq hs
    exact ⟨hheld.trans hnone, hrest⟩
  places h := by
    unfold Link.PlacesOk Link.reservedPlaces at *
    rwa [State.withLink_link, hqueue, hinbound, hheld, hmissed]
  bytes hb hr := by
    unfold Link.BytesOk Link.reservedBytes at *
    rw [State.withLink_link, hqueue, hheld]
    exact ⟨hb, hr⟩

theorem withPins_acts (s : State) (p : Pins) : Acts 0 s (s.withPins p) := .of_same rfl rfl rfl rfl rfl rfl rfl

theorem setAck_keepsLink (acked : Bool) (s : State) : KeepsLink s (setAck acked s) := (withPins_acts s _).keepsLink

theorem setSent_keepsLink (b : Byte) (s : State) : KeepsLink s (setSent b s) := (withPins_acts s _).keepsLink

end

/-! ### Resets (R182, R183) -/

section
variable {s t : State}

/-- A reset leaves the link empty and closed. -/
theorem KeepsLink.of_reset {a : BitVec 7} (hlink : t.link = Link.reset a) (hopc : t.opc.state = .mounting)
    (hrecords : RecordsBounded s → RecordsBounded t) : KeepsLink s t where
  standby _ _ := ⟨by simp [PortFollowsState, hlink, hopc, Link.reset, OpState.isOpen], .of_awake (by rw [hopc]; rfl)⟩
  places _ := by rw [hlink]; exact ⟨Nat.zero_le _, Nat.zero_le _, Nat.zero_le _⟩
  bytes _ hr := ⟨by rw [hlink]; exact ⟨Nat.zero_le _, nofun⟩, hrecords hr⟩

theorem spoil_tells (n : Nat) (s : State) : Tells 0 s (spoil n s) :=
  withLib_tells fun h => h.of_subset (fun _ => id) fun op hop => ⟨op, hop, rfl⟩

theorem commitCut_tells {dir : List (Nat × DirEntry)} (h : s.lib.SizesOk → ∀ e ∈ dir, e.2.size ≤ maxWire) :
    Tells 0 s (commitCut dir s) := by
  have hdraw : Tells 0 s (countDraw s) := (countDraw_acts s).toTells
  exact .ite (hdraw.trans (setDirectory_tells h)) hdraw

theorem cutOperation_tells (s : State) : Tells 0 s (cutOperation s) := by
  have hnone (u : State) : Tells 0 u (setOp none u) := withLib_tells fun h => h.of_subset (fun _ => id) nofun
  unfold cutOperation
  split
  · exact .refl s
  · next op hop =>
    refine Tells.trans ?_ (hnone _)
    split
    · exact spoil_tells _ s
    · exact commitCut_tells fun h => sizes_commits h.1 (h.2 op hop)
    · split
      · exact spoil_tells _ s
      · exact spoil_tells _ s
      · exact .refl s

theorem cutMount_tells (s : State) : Tells 0 s (cutMount s) := by
  unfold cutMount
  split
  · exact .refl s
  · split
    · exact commitCut_tells fun h e he => h.1 e (Table.mem_erase he)
    · exact spoil_tells _ s
    · exact .refl s

/-- A cut brings no record that was not listed or being stored (R33). -/
theorem RecordsBounded.resetPart (h : RecordsBounded s) (cause : ResetCause) (a : BitVec 7) (stage : MountStage) :
    RecordsBounded (resetPart cause a stage s) := by
  have hcut : RecordsBounded (cutLibrary s) := ((cutOperation_tells s).trans (cutMount_tells _)).records (Nat.zero_le _) h
  exact ⟨hcut.sizes.1, nofun, nofun, nofun, Context.bounded_reset, Context.bounded_reset⟩

theorem resetPart_keepsLink (cause : ResetCause) (a : BitVec 7) (stage : MountStage) (s : State) :
    KeepsLink s (resetPart cause a stage s) := .of_reset rfl rfl fun h => h.resetPart cause a stage

theorem setSupply_keepsLink (powered rstnLow : Bool) (s : State) : KeepsLink s (setSupply powered rstnLow s) :=
  (withPins_acts s _).keepsLink

theorem powerOnEvent_keepsLink (straps : Straps) (s : State) : KeepsLink s (powerOnEvent straps s) :=
  (resetPart_keepsLink _ _ _ s).trans (setSupply_keepsLink _ _ _)

theorem rstnAssertedEvent_keepsLink (straps : Straps) (s : State) : KeepsLink s (rstnAssertedEvent straps s) :=
  .ite (.refl s) (.ite ((resetPart_keepsLink _ _ _ s).trans (setSupply_keepsLink _ _ _)) (setSupply_keepsLink _ _ s))

theorem powerLossEvent_keepsLink (s : State) : KeepsLink s (powerLossEvent s) :=
  .ite ((resetPart_keepsLink _ _ _ s).trans (setSupply_keepsLink _ _ _)) (.refl s)

/-! ### Mount (R34 to R37) -/

/-- Another stage of the mount, another pool or free set: the directory and the operation in flight stay. -/
theorem withLib_keepsLink {l : Lib} (hdirectory : ∀ e ∈ l.directory, e ∈ s.lib.directory) (hop : l.op = s.lib.op) :
    KeepsLink s (s.withLib l) := by
  refine Acts.keepsLink ⟨withLib_tells fun h => h.of_subset hdirectory fun op hin => ⟨op, hop ▸ hin, rfl⟩, fun hs => ?_⟩
  exact ⟨hs.sleeps, hs.jobs, hs.session, hop.trans hs.op, hs.press⟩

theorem setMount_keepsLink (stage : MountStage) (repaired reclaimed : Nat) (s : State) :
    KeepsLink s (setMount stage repaired reclaimed s) := withLib_keepsLink (fun _ => id) rfl

/-- The part comes up AWAKE with its link IDLE (R37, R170, R187). -/
theorem awakeIdle_keepsLink (s : State) (w : Option WakeCause) :
    KeepsLink s ((s.withOpc { s.opc with state := .awake, wake := w }).withLink { s.link with state := .idle }) where
  standby _ _ := ⟨by simp [PortFollowsState, OpState.isOpen], .of_awake rfl⟩
  places := id
  bytes := .intro

theorem mountEnds_keepsLink (repaired reclaimed : Nat) (s : State) : KeepsLink s (mountEnds repaired reclaimed s) := by
  have hended : KeepsLink s (s.withLib { s.lib with mount := none }) := withLib_keepsLink (fun _ => id) rfl
  have hindexed (u : State) : KeepsLink u (u.withRcg { u.rcg with index := buildIndex u.lib }) :=
    (withRcg_acts (r := { u.rcg with index := buildIndex u.lib }) u id).keepsLink
  exact (((hended.trans (hindexed _)).trans (senseContextMounted_acts _).keepsLink).trans (awakeIdle_keepsLink _ _)).trans
    (notify_acts _ _).keepsLink

theorem beginReclaim_keepsLink (moment repaired : Nat) (s : State) : KeepsLink s (beginReclaim moment repaired s) := by
  have hsorted : KeepsLink s (s.withLib { s.lib with free := erasedSegments s.lib }) := withLib_keepsLink (fun _ => id) rfl
  unfold beginReclaim
  dsimp only
  split
  · exact hsorted.trans (mountEnds_keepsLink _ _ _)
  · exact hsorted.trans (setMount_keepsLink _ _ _ _)

theorem scanCompleteEvent_keepsLink (decayed : List (Nat × List Byte)) (s : State) :
    KeepsLink s (scanCompleteEvent decayed s) := by
  have hread : KeepsLink s (s.withLib { s.lib with pool := decay decayed s.lib.pool }) :=
    withLib_keepsLink (fun _ => id) rfl
  unfold scanCompleteEvent
  split
  · refine .ite ?_ (.refl s)
    dsimp only
    split
    · exact hread.trans (beginReclaim_keepsLink _ _ _)
    · exact hread.trans (setMount_keepsLink _ _ _ _)
  · exact .refl s

theorem repairCommitEvent_keepsLink (s : State) : KeepsLink s (repairCommitEvent s) := by
  have hrepaired (slot : Nat) : KeepsLink s (setDirectory (Table.erase s.lib.directory slot) s) :=
    withLib_keepsLink (fun _ => Table.mem_erase) rfl
  unfold repairCommitEvent
  split
  · refine .ite ?_ (.refl s)
    dsimp only
    split
    · exact (hrepaired _).trans (beginReclaim_keepsLink _ _ _)
    · exact (hrepaired _).trans (setMount_keepsLink _ _ _ _)
  · exact .refl s

theorem reclaimEraseEvent_keepsLink (s : State) : KeepsLink s (reclaimEraseEvent s) := by
  unfold reclaimEraseEvent
  split
  · refine .ite ?_ (.refl s)
    dsimp only
    split
    · exact (eraseSegment_acts _ s).keepsLink.trans (mountEnds_keepsLink _ _ _)
    · exact (eraseSegment_acts _ s).keepsLink.trans (setMount_keepsLink _ _ _ _)
  · exact .refl s

theorem rstnReleasedEvent_keepsLink (s : State) : KeepsLink s (rstnReleasedEvent s) := by
  unfold rstnReleasedEvent
  refine .ite ?_ (.refl s)
  dsimp only
  exact (setSupply_keepsLink _ _ s).trans (.ite (setMount_keepsLink _ _ _ _) (.refl _))

/-! ### Standby and wake (R185, R187) -/

/-- Standby is entered with nothing under way, which the five readiness conditions say (R185). -/
theorem settleStandby_keepsLink (s : State) : KeepsLink s (settleStandby s) := by
  unfold settleStandby
  split
  · next hdue =>
    obtain ⟨-, hready⟩ := hdue
    simp only [readyForStandby, linkAtRest, noLiveJob, noLearnSession, noLibraryOperation, pressIdle, Bool.and_eq_true,
      List.isEmpty_iff, Option.isNone_iff_eq_none] at hready
    obtain ⟨⟨⟨⟨⟨⟨-, hheld⟩, -⟩, hjobs⟩, hsession⟩, hop⟩, hpress⟩ := hready
    exact ⟨fun _ _ => ⟨by simp [PortFollowsState, enterStandby, OpState.isOpen],
      fun _ => ⟨hheld, hjobs, hsession, hop, hpress⟩⟩, id, .intro⟩
  · exact .refl s

theorem wakeCompletionEvent_keepsLink (s : State) : KeepsLink s (wakeCompletionEvent s) := by
  unfold wakeCompletionEvent
  split
  · refine .ite ?_ (.refl s)
    exact ((awakeIdle_keepsLink s none).trans (notify_acts _ _).keepsLink).trans
      ((actOnKept_tells _).keepsLink_of_open rfl)
  · exact .refl s

end

/-! ### Taking a frame (R161, R162, R184) -/

section
variable {s : State} {f : CheckedFrame} {m : Message}

theorem returnToAwake_tells (s : State) : Tells 0 s (returnToAwake s) := by
  unfold returnToAwake
  split
  · next h => exact ⟨.refl, fun _ => by simp [h, OpState.isOpen, OpState.sleeps], fun _ => id⟩
  · exact .refl s

/-- A reply and the return to AWAKE can change places. -/
theorem returnToAwake_withLink (s : State) (l : Link) : returnToAwake (s.withLink l) = (returnToAwake s).withLink l := by
  unfold returnToAwake
  by_cases h : s.opc.state = .standbyPending
  · simp only [State.withLink_opc, h, if_true]
    rfl
  · simp only [State.withLink_opc, h, if_false]

/-- A frame that is taken is answered by one reply within its reply size, unless it is a RESET, which has none (R161, R183). -/
theorem take_cases (f : CheckedFrame) (hl : s.link.state ≠ .closed) :
    KeepsLink s (take f s) ∨
      (f.replySize ≠ 0 ∧ ∃ m : Message, (RecordsBounded s → f.ok → m.size ≤ f.replySize) ∧
        Tells 0 (s.withLink (s.link.append m)) (take f s)) := by
  cases f with
  | rejected tag status => exact .inr ⟨nofun, replyMessage tag status [], fun _ _ => le_refl 6, .refl _⟩
  | good k tag p =>
    by_cases hreset : k = .reset
    · subst hreset
      have hawake : RecordsBounded s → RecordsBounded (returnToAwake s) := (returnToAwake_tells s).records (Nat.zero_le _)
      exact .inl (.of_reset rfl rfl fun h => (hawake h).resetPart _ _ _)
    · refine .inr ⟨by cases k <;> simp_all [CheckedFrame.replySize, ReqKind.maxReply], ?_⟩
      unfold take
      dsimp only
      split
      · exact own_answers tag _ hreset hl
      · obtain ⟨m, hm, ht⟩ := own_answers (s := returnToAwake s) (p := p) tag s.opc.state hreset (by simpa using hl)
        refine ⟨m, fun hs => hm ((returnToAwake_tells s).records (Nat.zero_le _) hs), ?_⟩
        rw [returnToAwake_link, ← returnToAwake_withLink] at ht
        exact (returnToAwake_tells _).trans ht

/-- A frame is taken in a state with a place left for its reply, and with the bytes of its reply size (R161, R162). -/
theorem take_keepsLink {f : CheckedFrame} {l : Link} (hs : s.link.state ≠ .closed) (hl : l.state ≠ .closed)
    (hplaces : s.link.PlacesOk → l.PlacesOk ∧ (f.replySize ≠ 0 → l.queue.length + l.reservedPlaces < maxMessages))
    (hbytes : s.link.BytesOk →
      l.BytesOk ∧ f.ok ∧ queueBytes l.queue + l.reservedBytes + f.replySize ≤ maxBytes) :
    KeepsLink s (take f (s.withLink l)) := by
  have hlinked : KeepsLink s (s.withLink l) := .withLink hs hl (fun h => (hplaces h).1) fun h => (hbytes h).1
  rcases take_cases (s := s.withLink l) f hl with htaken | ⟨hsize, m, hm, ht⟩
  · exact hlinked.trans htaken
  · refine ⟨fun hp hq => ?_, fun h => ?_, fun hb hr => ?_⟩
    · have ho : s.opc.state.isOpen = true := PortFollowsState.isOpen hp hs
      exact (ht.keepsLink_of_open ho).standby (hlinked.standby hp hq).1 (.of_awake (OpState.sleeps_of_isOpen ho))
    · obtain ⟨⟨-, hinbound, hmissed⟩, hroom⟩ := hplaces h
      refine ht.link.placesOk ⟨?_, hinbound, hmissed⟩
      have := hroom hsize
      simp only [State.withLink_link, Link.append, List.length_append, List.length_singleton]
      unfold Link.reservedPlaces at *
      dsimp only
      omega
    · obtain ⟨⟨-, hheld⟩, hok, hroom⟩ := hbytes hb
      have hfits : m.size ≤ f.replySize := hm hr hok
      refine ⟨ht.link.bytesOk ⟨?_, hheld⟩, ht.records (Nat.zero_le _) hr⟩
      simp only [State.withLink_link, Link.append, queueBytes_append, queueBytes_singleton]
      unfold Link.reservedBytes at *
      dsimp only
      omega

theorem Link.fits_iff (l : Link) (f : CheckedFrame) :
    l.fits f = true ↔ f.replySize ≤ l.freeBytes ∧ (f.replySize = 0 ∨ 1 ≤ l.freePlaces) := by simp [Link.fits]

/-- A frame that arrives is one that Table 10-3 let through: it is taken where its reply fits, and held otherwise with the
bytes and the place that are free (R161, R162). -/
theorem arrive_keepsLink {f : CheckedFrame} (hf : f.ok) (hs : s.link.state ≠ .closed) : KeepsLink s (arrive f s) := by
  unfold arrive
  split
  · next hfits =>
    obtain ⟨hbytes, hplaces⟩ := (Link.fits_iff _ _).1 hfits
    unfold Link.freeBytes at hbytes
    unfold Link.freePlaces at hplaces
    refine take_keepsLink hs (by simp) (fun h => ?_) fun h => ?_
    · obtain ⟨hfull, -, hmissed⟩ := h
      refine ⟨⟨hfull, Nat.zero_le _, hmissed⟩, fun hsize => ?_⟩
      unfold Link.reservedPlaces at *
      dsimp only
      omega
    · obtain ⟨hfull, hheld⟩ := h
      refine ⟨⟨hfull, hheld⟩, hf, ?_⟩
      unfold Link.reservedBytes at *
      dsimp only
      omega
  · refine .withLink hs (by simp [Link.hold]) (fun h => ?_) fun h => ?_
    · obtain ⟨hfull, hinbound, hmissed⟩ := h
      refine ⟨?_, hinbound, hmissed⟩
      simp only [Link.hold, Link.reservedPlaces, decide_eq_true_eq]
      split <;> omega
    · obtain ⟨hfull, -⟩ := h
      refine ⟨?_, fun h hh => ?_⟩
      · simp only [Link.hold, Link.reservedBytes, Link.freeBytes]
        omega
      · rw [← Option.some.inj hh]
        exact ⟨hf, rfl, Nat.min_le_left ..⟩

theorem Held.complete_iff (h : Held) : h.complete = true ↔ h.size ≤ h.bytes ∧ h.place = true := by simp [Held.complete]

/-- A complete reservation gives its frame the bytes and the place of the reply (R162). -/
theorem takePending_keepsLink (s : State) : KeepsLink s (takePending s) := by
  unfold takePending
  split
  · exact .refl s
  · next h hheld =>
    split
    · next hready =>
      obtain ⟨hcomplete, hstate⟩ := hready
      obtain ⟨hsize, hplace⟩ := (Held.complete_iff h).1 hcomplete
      have hs : s.link.state ≠ .closed := by rcases hstate with h | h <;> simp [h]
      refine take_keepsLink hs ?_ (fun hl => ?_) fun hl => ?_
      · dsimp only
        split
        · simp
        · exact hs
      · obtain ⟨hfull, -, hmissed⟩ := hl
        simp only [Link.reservedPlaces, hheld, hplace, if_true] at hfull
        refine ⟨⟨?_, Nat.zero_le _, hmissed⟩, fun _ => ?_⟩
        · simp only [Link.reservedPlaces]; omega
        · simp only [Link.reservedPlaces]; omega
      · obtain ⟨hfull, hsound⟩ := hl
        obtain ⟨hok, hreply, -⟩ := hsound h hheld
        simp only [Link.reservedBytes, hheld] at hfull
        refine ⟨⟨?_, nofun⟩, hok, ?_⟩
        · simp only [Link.reservedBytes]; omega
        · simp only [Link.reservedBytes]; omega
    · exact .refl s

/-! ### The frame checks (R160) -/

theorem checkLength_ok (k : ReqKind) (tag : Byte) (p : List Byte) : (checkLength k tag p).ok := by
  unfold checkLength
  split
  · next h => exact h
  · trivial

theorem checkFrame_ok (bytes : List Byte) : (checkFrame bytes).ok := by
  unfold checkFrame
  dsimp only
  split
  · trivial
  · split
    · trivial
    · split
      · trivial
      · exact checkLength_ok _ _ _

/-! ### The transactions of the port (R156 to R160, R165 to R169) -/

theorem writeEndEvent_keepsLink (s : State) : KeepsLink s (writeEndEvent s) := by
  unfold writeEndEvent
  split
  · next h =>
    have hs : s.link.state ≠ .closed := by simp [h]
    refine .ite (.withLink hs (by simp) (fun hl => ?_) id) (arrive_keepsLink (checkFrame_ok _) hs)
    obtain ⟨hfull, -, hmissed⟩ := hl
    exact ⟨hfull, Nat.zero_le _, hmissed⟩
  · exact .refl s

theorem readEndEvent_keepsLink (s : State) : KeepsLink s (readEndEvent s) := by
  unfold readEndEvent
  split
  · next h =>
    refine .withLink_same ?_ rfl rfl rfl rfl
    dsimp only
    split <;> simp [h]
  · exact .refl s

theorem endTransaction_keepsLink (s : State) : KeepsLink s (endTransaction s) :=
  ((writeEndEvent_keepsLink s).trans (readEndEvent_keepsLink _)).trans (settleStandby_keepsLink _)

theorem judgeAddress_keepsLink (read : Bool) (s : State) : KeepsLink s (judgeAddress read s) := by
  have hrefused (u : State) : KeepsLink u (setAck false u) := setAck_keepsLink false u
  have hread (h : s.link.state ≠ .closed) : KeepsLink s (setAck true (s.withLink s.link.beginRead)) := by
    refine KeepsLink.trans ?_ (setAck_keepsLink true _)
    exact .withLink_same (by simp [Link.beginRead, h]) rfl rfl rfl rfl
  have hwrite (h : s.link.state ≠ .closed) :
      KeepsLink s (setAck true (s.withLink { s.link with state := .receiving, inbound := [] })) := by
    refine KeepsLink.trans ?_ (setAck_keepsLink true _)
    refine .withLink h (by simp) (fun hl => ?_) id
    obtain ⟨hfull, -, hmissed⟩ := hl
    exact ⟨hfull, Nat.zero_le _, hmissed⟩
  unfold judgeAddress
  split
  · split
    · next h => exact (beginWake_acts .link h).keepsLink.trans (hrefused _)
    · exact hrefused s
  · next h => exact .ite (hrefused s) (.ite (hread (by simp [h])) (hwrite (by simp [h])))
  · next h => exact .ite (hrefused s) (hread (by simp [h]))
  · exact hrefused s
  · exact hrefused s

theorem addressEvent_keepsLink (address : BitVec 7) (read : Bool) (s : State) :
    KeepsLink s (addressEvent address read s) :=
  (endTransaction_keepsLink s).trans (.ite (judgeAddress_keepsLink read _) (setAck_keepsLink false _))

/-- A byte is stored below the bound of the buffer alone (R159). -/
theorem dataByteEvent_keepsLink (b : Byte) (s : State) : KeepsLink s (dataByteEvent b s) := by
  unfold dataByteEvent
  split
  · next h =>
    obtain ⟨hstate, hroom⟩ := h
    have hs : s.link.state ≠ .closed := by simp [hstate]
    refine KeepsLink.trans ?_ (setAck_keepsLink true _)
    refine .withLink hs hs (fun hl => ?_) id
    obtain ⟨hfull, -, hmissed⟩ := hl
    refine ⟨hfull, ?_, hmissed⟩
    rw [List.length_append, List.length_singleton]
    omega
  · exact setAck_keepsLink false s

theorem handOff_keepsLink (acked : Bool) (s : State) : KeepsLink s (handOff acked s) := by
  have hasked : KeepsLink s (s.withLink s.link.asked) := by
    rcases s.link.asked_cases with ⟨-, -, -, h⟩ | ⟨-, h⟩ <;> rw [h]
    · exact .withLink_same Iff.rfl rfl rfl rfl rfl
    · exact .refl s
  have hended : KeepsLink s (s.withLink { s.link with handedOff := true }) := .withLink_same Iff.rfl rfl rfl rfl rfl
  exact .ite (hasked.trans (setAck_keepsLink true _)) (hended.trans (setAck_keepsLink false _))

theorem releasedByte_keepsLink (acked : Bool) (s : State) : KeepsLink s (releasedByte acked s) :=
  (setSent_keepsLink _ s).trans (setAck_keepsLink acked _)

/-- A byte goes out, and the host acknowledges it or not: of the link the read position and the EMPTY frame change (R165). -/
theorem handOff_setSent_keepsLink (acked : Bool) (b : Byte) {l : Link} (hstate : l.state = s.link.state)
    (hqueue : l.queue = s.link.queue) (hinbound : l.inbound = s.link.inbound) (hheld : l.held = s.link.held)
    (hmissed : l.missed = s.link.missed) : KeepsLink s (handOff acked ((setSent b s).withLink l)) := by
  have hlinked : KeepsLink (setSent b s) ((setSent b s).withLink l) :=
    .withLink_same (by rw [hstate]; rfl) hqueue hinbound hheld hmissed
  exact ((setSent_keepsLink b s).trans hlinked).trans (handOff_keepsLink acked _)

theorem byteSentEvent_keepsLink (acked : Bool) (s : State) : KeepsLink s (byteSentEvent acked s) := by
  unfold byteSentEvent
  refine .ite ?_ (releasedByte_keepsLink acked s)
  split
  · exact .ite (handOff_setSent_keepsLink acked _ rfl rfl rfl rfl rfl) (.refl s)
  · exact .ite (handOff_setSent_keepsLink acked _ rfl rfl rfl rfl rfl) (.refl s)
  · exact .refl s

/-- The place and the bytes of the removed message are all that a reservation takes (R162, R165). -/
theorem dropHead_keepsLink {m : Message} {rest : List Message} (hs : s.link.state ≠ .closed)
    (hq : s.link.queue = m :: rest) : KeepsLink s (s.withLink (s.link.dropHead m)) := by
  refine .withLink hs hs (fun h => ?_) fun h => ?_
  · obtain ⟨hfull, hinbound, hmissed⟩ := h
    refine ⟨?_, hinbound, hmissed⟩
    rw [hq, List.length_cons] at hfull
    cases hheld : s.link.held with
    | none => simp only [Link.dropHead, Link.reservedPlaces, hq, hheld, Option.map_none, List.tail_cons]; omega
    | some h =>
      simp only [Link.dropHead, Link.reservedPlaces, hq, hheld, Option.map_some, List.tail_cons, Held.grow, if_true]
      omega
  · obtain ⟨hfull, hsound⟩ := h
    rw [hq, queueBytes] at hfull
    cases hheld : s.link.held with
    | none =>
      refine ⟨?_, fun h hh => by simp [Link.dropHead, hheld] at hh⟩
      simp only [Link.dropHead, Link.reservedBytes, hq, hheld, Option.map_none, List.tail_cons]
      omega
    | some h =>
      obtain ⟨hok, hsize, -⟩ := hsound h hheld
      simp only [Link.reservedBytes, hheld] at hfull
      refine ⟨?_, fun h' hh => ?_⟩
      · simp only [Link.dropHead, Link.reservedBytes, hq, hheld, Option.map_some, List.tail_cons, Held.grow]
        omega
      · obtain rfl : h.grow m.size = h' := by simpa [Link.dropHead, hheld] using hh
        exact ⟨hok, hsize, Nat.min_le_left ..⟩

theorem messageSentEvent_keepsLink (acked : Bool) (s : State) : KeepsLink s (messageSentEvent acked s) := by
  unfold messageSentEvent
  split
  · next hserving =>
    split
    · exact .ite (handOff_setSent_keepsLink acked _ rfl rfl rfl rfl rfl) (.refl s)
    · next m rest _ hq =>
      have hs : s.link.state ≠ .closed := by
        obtain ⟨hsending, -⟩ : s.link.state = .sending ∧ _ := by simpa [serving] using hserving
        simp [hsending]
      have hdropped (b : Byte) : KeepsLink s ((setSent b s).withLink (s.link.dropHead m)) :=
        (dropHead_keepsLink hs hq).trans (setSent_keepsLink b _)
      exact .ite (((hdropped _).trans (takePending_keepsLink _)).trans (handOff_keepsLink acked _)) (.refl s)
    · exact .refl s
  · exact releasedByte_keepsLink acked s

theorem linkReleaseEvent_keepsLink (lowFor : Nat) (s : State) : KeepsLink s (linkReleaseEvent lowFor s) := by
  have hpins : KeepsLink s (s.withPins { s.pins with lrelLowUntil := s.now + lowFor }) := (withPins_acts s _).keepsLink
  unfold linkReleaseEvent
  dsimp only
  split
  · exact hpins
  · next h =>
    refine hpins.trans (.withLink h (by simp) (fun hl => ?_) fun hl => ?_)
    · obtain ⟨hfull, -, hmissed⟩ := hl
      exact ⟨le_trans (Nat.le_add_right _ _) hfull, Nat.zero_le _, hmissed⟩
    · obtain ⟨hfull, -⟩ := hl
      exact ⟨le_trans (Nat.le_add_right _ _) hfull, nofun⟩

theorem hostRequest_keepsLink (kind : ReqKind) (tag : Byte) (p : List Byte) (s : State) :
    KeepsLink s (hostRequest kind tag p s) := by
  unfold hostRequest
  refine (addressEvent_keepsLink s.link.address false s).trans ?_
  dsimp only
  split
  · next h =>
    refine KeepsLink.trans (.withLink (l := { (addressEvent s.link.address false s).link with
      inbound := (frameBytes kind.code tag p).take maxInbound }) (by simp [h]) (by simp [h]) (fun hl => ?_) id)
      (arrive_keepsLink (checkLength_ok kind tag p) (by simp [h]))
    obtain ⟨hfull, -, hmissed⟩ := hl
    exact ⟨hfull, List.length_take_le .., hmissed⟩
  · exact .refl _

/-! ### The step -/

section
variable {t : State}

theorem advance_acts (dt : Nat) (s : State) : Acts 0 s (advance dt s) := .ite (.of_same rfl rfl rfl rfl rfl rfl rfl) (.refl s)

/-- A command keeps the link when its effect does: time passes before it, and standby may be entered after it. -/
theorem event_keepsLink {dt : Nat} {f : State → State} (hf : ∀ u, KeepsLink u (f u)) (h : event dt f s = .next t) :
    KeepsLink s t := by
  obtain rfl : settleStandby (f (advance dt s)) = t := by simpa [event] using h
  exact ((advance_acts dt s).keepsLink.trans (hf _)).trans (settleStandby_keepsLink _)

theorem event_acts {dt : Nat} {f : State → State} (hf : ∀ u, Acts 0 u (f u)) (h : event dt f s = .next t) :
    KeepsLink s t := event_keepsLink (fun u => (hf u).keepsLink) h

theorem exec_keepsLink (c : Instr) (h : exec c s = .next t) : KeepsLink s t := by
  cases c with
  | powerOn => exact event_keepsLink (powerOnEvent_keepsLink _) h
  | rstnAsserted => exact event_keepsLink (rstnAssertedEvent_keepsLink _) h
  | rstnReleased => exact event_keepsLink rstnReleasedEvent_keepsLink h
  | powerLoss => exact event_keepsLink powerLossEvent_keepsLink h
  | mountScanComplete => exact event_keepsLink (scanCompleteEvent_keepsLink _) h
  | mountRepairCommit => exact event_keepsLink repairCommitEvent_keepsLink h
  | mountReclaimErase => exact event_keepsLink reclaimEraseEvent_keepsLink h
  | segmentVerify => exact event_acts (segmentVerifyEvent_acts _) h
  | commit => exact event_acts commitEvent_acts h
  | segmentErased => exact event_acts segmentErasedEvent_acts h
  | addressByte => exact event_keepsLink (addressEvent_keepsLink _ _) h
  | writeEnd => exact event_keepsLink writeEndEvent_keepsLink h
  | pendingFrameTaken => exact event_keepsLink takePending_keepsLink h
  | messageSent => exact event_keepsLink (messageSentEvent_keepsLink _) h
  | readEnd => exact event_keepsLink readEndEvent_keepsLink h
  | linkRelease => exact event_keepsLink (linkReleaseEvent_keepsLink _) h
  | dataByteWritten => exact event_keepsLink (dataByteEvent_keepsLink _) h
  | byteSent => exact event_keepsLink (byteSentEvent_keepsLink _) h
  | getStatus | configure | readConfig | standby | reset | learnStart | learnStop | readStaged | store | erase
  | setCodeFlags | readCode | listCodes | send | hold | sequence | release | cancel | flush | jobStatus | disable | enable
  | clearFault | nearOn | nearOff | routeSet | routeClear | routeRead =>
    exact event_keepsLink (hostRequest_keepsLink _ _ _) h
  | candidateMarkBegins => exact event_acts (riseEvent_acts _) h
  | glitchLimitReached => exact event_acts (candidateEvent_acts _) h
  | markEnds => exact event_acts (fallEvent_acts _) h
  | envelopeMarkEnd => exact event_acts (takeEnvelope_acts .learn) h
  | frameGapReached => exact event_acts (gapEvent_acts _) h
  | longMark => exact event_acts (longEvent_acts _) h
  | settlingDone => exact event_acts (takeSettled_acts _) h
  | windowExpiry => exact event_acts windowEvent_acts h
  | endGapExpiry => exact event_acts endGapEvent_acts h
  | releaseTimerExpiry => exact event_acts releaseTimerEvent_acts h
  | frameStart => exact event_acts (frameStartEvent_acts _) h
  | elementEnd => exact event_acts (elementEndEvent_acts _) h
  | frameEnd => exact event_acts (frameEndEvent_acts _) h
  | pauseEnd => exact event_acts (pauseEndEvent_acts _) h
  | sendStepStart => exact event_acts (sendStepStartEvent_acts _) h
  | holdDeadlineExpiry => exact event_acts (holdDeadlineEvent_acts _) h
  | openWindowClose => exact event_acts (openWindowCloseEvent_acts _) h
  | overcurrent => exact event_acts (overcurrentEvent_acts _) h
  | maskWindowClose => exact event_acts (maskWindowCloseEvent_acts _) h
  | carrierPulseEdge => exact event_acts (pulseEdgeEvent_acts _) h
  | standbyEntry => exact event_keepsLink settleStandby_keepsLink h
  | wakeCompletion => exact event_keepsLink wakeCompletionEvent_keepsLink h

theorem step_keepsLink (h : step s = .next t) : KeepsLink s t := by
  unfold step at h
  split at h
  · obtain rfl : s = t := by simpa using h
    exact .refl s
  · next c rest _ =>
    have hqueue : Acts 0 s (s.withPending rest) := .of_same rfl rfl rfl rfl rfl rfl rfl
    exact hqueue.keepsLink.trans (exec_keepsLink c h)

/-- The entry to standby leaves none that is due (R185). -/
theorem standbySettled_settleStandby (s : State) : StandbySettled (settleStandby s) := by
  unfold settleStandby
  split
  · exact fun hdue => by simp [enterStandby] at hdue
  · next h => exact h

/-- Every command ends with the entry to standby where it is due. -/
theorem exec_settles (c : Instr) (s : State) : ∃ u, exec c s = .next (settleStandby u) := by
  cases c <;> exact ⟨_, rfl⟩

theorem step_settles (hs : StandbySettled s) (h : step s = .next t) : StandbySettled t := by
  unfold step at h
  split at h
  · obtain rfl : s = t := by simpa using h
    exact hs
  · next c rest _ =>
    obtain ⟨u, hu⟩ := exec_settles c (s.withPending rest)
    obtain rfl : settleStandby u = t := by simpa [hu] using h
    exact standbySettled_settleStandby u

end

end

/-- Settles O55: the port and the sleep of the part with what every command keeps, the entry to standby with its end. -/
theorem portFollowsOperatingState : Obligations.portFollowsOperatingState := by
  intro s t hport hquiet hsettled hstep
  obtain ⟨hport', hquiet'⟩ := (step_keepsLink hstep).standby hport hquiet
  exact ⟨hport', hquiet', step_settles hsettled hstep⟩

/-- Settles O57: every command keeps the places of the link. -/
theorem placesStayBounded : Obligations.placesStayBounded := fun _ _ h hstep => (step_keepsLink hstep).places h

/-- Settles O58: every command keeps the bytes of the link together with the sizes of the records. -/
theorem bytesStayBounded : Obligations.bytesStayBounded := fun _ _ hbytes hrecords hstep =>
  (step_keepsLink hstep).bytes hbytes hrecords

end Sys2Proof.Machine
end

section
/-! Data bytes and address bytes (R156, R158, R159, R169, Table 10-2), and the ends of transactions (R160, R167, R169). -/

namespace Sys2Proof.Machine

section
variable {u : State} {x : Byte}

/-- Standby is entered from a link in IDLE alone (R170, R185). -/
theorem settleStandby_of_notIdle (h : u.link.state ≠ .idle) : settleStandby u = u :=
  settleStandby_of_linkBusy (by simp [linkAtRest, h])

/-! ### Data bytes -/

theorem dataByteEvent_stored (hs : u.link.state = .receiving) (hroom : u.link.inbound.length < maxInbound) :
    dataByteEvent x u = setAck true (u.withLink { u.link with inbound := u.link.inbound ++ [x] }) := if_pos ⟨hs, hroom⟩

theorem dataByteEvent_refused (h : ¬(u.link.state = .receiving ∧ u.link.inbound.length < maxInbound)) :
    dataByteEvent x u = setAck false u := if_neg h

theorem writeEndEvent_receiving (hs : u.link.state = .receiving) : writeEndEvent u = endWrite u := if_pos hs

theorem writeEndEvent_ignored (hs : u.link.state ≠ .receiving) : writeEndEvent u = u := if_neg hs

end

/-- Settles O2: a byte by the state of the link and the room of the buffer, and the end of a write too short to be a frame. -/
theorem dataByteStored : Obligations.dataByteStored := by
  intro dt x s u
  have hbyte : exec (.dataByteWritten dt x) s = .next (settleStandby (dataByteEvent x u)) := rfl
  have hend : exec (.writeEnd dt) s = .next (settleStandby (writeEndEvent u)) := rfl
  refine ⟨fun hs hroom => ?_, fun hs hfull => ?_, fun hs => ?_, fun hs hshort => ?_⟩
  · rw [hbyte, dataByteEvent_stored hs hroom, settleStandby_of_notIdle (by simp [setAck, hs])]
    rfl
  · rw [hbyte, dataByteEvent_refused fun h => absurd h.2 (not_lt.2 hfull), settleStandby_of_notIdle (by simp [setAck, hs])]
    rfl
  · rw [hbyte, dataByteEvent_refused fun h => hs h.1]
    rfl
  · rw [hend, writeEndEvent_receiving hs, endWrite, if_pos hshort]
    rfl

/-! ### Address bytes -/

section
variable {u : State}

theorem readEndEvent_sending (hs : u.link.state = .sending) : readEndEvent u = endRead u := if_pos hs

theorem readEndEvent_ignored (hs : u.link.state ≠ .sending) : readEndEvent u = u := if_neg hs

/-- Between transactions a start ends none (R156). -/
theorem endTransaction_between (hset : StandbySettled u) (hr : u.link.state ≠ .receiving) (hs : u.link.state ≠ .sending) :
    endTransaction u = u := by
  rw [endTransaction, writeEndEvent_ignored hr, readEndEvent_ignored hs, settleStandby_of_settled hset]

/-- Between transactions the port's own address is judged, and any other refused (R158). -/
theorem addressEvent_between (hset : StandbySettled u) (hr : u.link.state ≠ .receiving) (hs : u.link.state ≠ .sending)
    (a : BitVec 7) (read : Bool) :
    addressEvent a read u = if a = u.link.address then judgeAddress read u else setAck false u := by
  rw [addressEvent, endTransaction_between hset hr hs]

theorem judgeAddress_closed (hs : u.link.state = .closed) (read : Bool) :
    judgeAddress read u = setAck false (if u.opc.state = .standby then beginWake .link u else u) := by
  simp only [judgeAddress, hs]

/-- LREL low refuses every address while the link is open and between transactions (R169). -/
theorem judgeAddress_low (hr : u.link.state ≠ .receiving) (hs : u.link.state ≠ .sending) (hc : u.link.state ≠ .closed)
    (hlow : lrelLow u = true) (read : Bool) : judgeAddress read u = setAck false u := by
  cases hst : u.link.state <;> simp_all [judgeAddress]

theorem judgeAddress_pending_write (hs : u.link.state = .pending) : judgeAddress false u = setAck false u := by
  simp [judgeAddress, hs]

theorem judgeAddress_write (hs : u.link.state = .idle) (hlow : lrelLow u = false) :
    judgeAddress false u = setAck true (u.withLink { u.link with state := .receiving, inbound := [] }) := by
  simp [judgeAddress, hs, hlow]

theorem judgeAddress_read (hs : u.link.state = .idle ∨ u.link.state = .pending) (hlow : lrelLow u = false) :
    judgeAddress true u = setAck true (u.withLink u.link.beginRead) := by
  rcases hs with hs | hs <;> simp [judgeAddress, hs, hlow]

/-- The acknowledge is nothing that standby waits for. -/
theorem settleStandby_setAck (h : StandbySettled u) (acked : Bool) : settleStandby (setAck acked u) = setAck acked u :=
  settleStandby_of_settled (h.of_changes (.withPins rfl u _))

end

/-- Settles O3: an address between transactions by the state of the link, LREL, and the direction. -/
theorem addressByteJudged : Obligations.addressByteJudged := by
  intro dt a read s u hset hr hs
  have hexec : exec (.addressByte dt a read) s =
      .next (settleStandby (if a = u.link.address then judgeAddress read u else setAck false u)) := by
    rw [← addressEvent_between hset hr hs]
    rfl
  refine ⟨fun ha => ?_, fun ha hc hawake => ?_, fun ha hc hstandby => ?_, fun ha hc hlow => ?_, fun ha hp hw => ?_,
    fun ha hi hlow hw => ?_, fun ha hst hlow hread => ?_⟩
  · rw [hexec, if_neg ha, settleStandby_setAck hset]
    rfl
  · rw [hexec, if_pos ha, judgeAddress_closed hc, if_neg hawake, settleStandby_setAck hset]
    rfl
  · rw [hexec, if_pos ha, judgeAddress_closed hc, if_pos hstandby,
      settleStandby_of_notIdle (by simp [setAck, beginWake, hc])]
    rfl
  · rw [hexec, if_pos ha, judgeAddress_low hr hs hc hlow, settleStandby_setAck hset]
    rfl
  · rw [hexec, if_pos ha, hw, judgeAddress_pending_write hp, settleStandby_setAck hset]
    rfl
  · rw [hexec, if_pos ha, hw, judgeAddress_write hi hlow, settleStandby_of_notIdle (by simp [setAck])]
    rfl
  · rw [hexec, if_pos ha, hread, judgeAddress_read hst hlow, settleStandby_of_notIdle (by simp [setAck, Link.beginRead])]
    rfl

/-! ### The end of a read, and a link release -/

/-- Settles O9: the end of a read in SENDING alone, and a link release by whether the link is CLOSED. -/
theorem readEndAndLinkRelease : Obligations.readEndAndLinkRelease := by
  intro dt low s u
  have hread : exec (.readEnd dt) s = .next (settleStandby (readEndEvent u)) := rfl
  have hrelease : exec (.linkRelease dt low) s = .next (settleStandby (linkReleaseEvent low u)) := rfl
  refine ⟨fun hs => ?_, fun hs => ?_, fun hc => ?_, fun hc => ?_⟩
  · rw [hread, readEndEvent_sending hs, endRead]
    cases hheld : u.link.held <;> rfl
  · rw [hread, readEndEvent_ignored hs]
  · rw [hrelease, linkReleaseEvent]
    refine congrArg _ ((congrArg settleStandby (if_pos hc)).trans (settleStandby_of_notIdle ?_))
    simp [hc]
  · rw [hrelease, linkReleaseEvent]
    exact congrArg _ (congrArg settleStandby (if_neg hc))

/-- Settles O10: the admission test of R164, and its two outcomes. -/
theorem notificationAdmittedOrDropped : Obligations.notificationAdmittedOrDropped := by
  intro l n m
  refine ⟨fun hbytes hplaces => Link.notify_admitted (Link.admits_iff.2 ⟨hbytes, hplaces⟩), fun h => ?_⟩
  refine Link.notify_dropped fun hadmits => ?_
  obtain ⟨hbytes, hplaces⟩ := Link.admits_iff.1 hadmits
  rcases h with h | h
  · exact absurd hbytes (not_le.2 h)
  · have hnone : l.freePlaces = 0 := h
    omega

end Sys2Proof.Machine
end

section
/-! The frame and its four checks (R160, R173, Table 10-3), and the end of a write (R160 to R162, R184). -/

namespace Sys2Proof.Machine

/-! ### The frame -/

theorem byteSum_append (p q : List Byte) : byteSum (p ++ q) = byteSum p + byteSum q := by
  induction p with
  | nil => simp [byteSum]
  | cons b p ih => rw [List.cons_append, byteSum, ih, byteSum, BitVec.add_assoc]

theorem byteSum_singleton (b : Byte) : byteSum [b] = b := BitVec.add_zero b

/-- The check byte makes the sum of a frame 0 (R173). -/
theorem byteSum_frameBytes (kind tag : Byte) (p : List Byte) : byteSum (frameBytes kind tag p) = 0 := by
  rw [frameBytes, byteSum_append, byteSum_singleton]
  exact BitVec.add_right_neg _

theorem length_frameBytes (kind tag : Byte) (p : List Byte) : (frameBytes kind tag p).length = 5 + p.length := by
  simp only [frameBytes, List.length_append, List.length_cons, List.length_nil, length_word]
  omega

/-- The length field of a frame is read back (R173). -/
theorem wordAt_frameBytes (kind tag : Byte) {p : List Byte} (hp : p.length < 65536) :
    wordAt (frameBytes kind tag p) 2 = p.length := by
  have hfield : frameBytes kind tag p =
      [kind, tag] ++ (word p.length ++ (p ++ [-(byteSum (kind :: tag :: (word p.length ++ p)))])) := by
    simp [frameBytes]
  rw [hfield]
  exact (wordAt_append_right [kind, tag] _ 0).trans (wordAt_word_append hp _)

theorem payload_frameBytes (kind tag : Byte) (p : List Byte) : ((frameBytes kind tag p).drop 4).take p.length = p := by
  have hfield : (frameBytes kind tag p).drop 4 = p ++ [-(byteSum (kind :: tag :: (word p.length ++ p)))] := by
    simp [frameBytes, word]
  rw [hfield, List.take_left]

/-- No two request kinds share a code (Table 11-2). -/
theorem ReqKind.ofCode_code (k : ReqKind) : ReqKind.ofCode k.code = some k := by cases k <;> decide

theorem ReqKind.ofCode_eq_none {b : Byte} (h : ∀ k : ReqKind, k.code ≠ b) : ReqKind.ofCode b = none :=
  List.find?_eq_none.2 fun k _ => by simpa using h k

/-! ### The four checks -/

section
variable {bytes : List Byte}

theorem checkFrame_badLength (h : bytes.length ≠ 5 + wordAt bytes 2) :
    checkFrame bytes = .rejected (byteAt bytes 1) .badLength := if_pos h

theorem checkFrame_badCheck (h : bytes.length = 5 + wordAt bytes 2) (hsum : byteSum bytes ≠ 0) :
    checkFrame bytes = .rejected (byteAt bytes 1) .badCheck := (if_neg (not_not.2 h)).trans (if_pos hsum)

theorem checkFrame_kind (h : bytes.length = 5 + wordAt bytes 2) (hsum : byteSum bytes = 0) :
    checkFrame bytes =
      match ReqKind.ofCode (byteAt bytes 0) with
      | none => .rejected (byteAt bytes 1) .unknownKind
      | some k => checkLength k (byteAt bytes 1) ((bytes.drop 4).take (wordAt bytes 2)) :=
  (if_neg (not_not.2 h)).trans (if_neg (not_not.2 hsum))

end

/-- A request frame comes through the checks with the fourth alone left (R160). -/
theorem checkFrame_frameBytes (k : ReqKind) (tag : Byte) {p : List Byte} (hp : p.length ≤ 300) :
    checkFrame (frameBytes k.code tag p) = checkLength k tag p := by
  have hlength := wordAt_frameBytes k.code tag (p := p) (by omega)
  have hkind : byteAt (frameBytes k.code tag p) 0 = k.code := rfl
  have htag : byteAt (frameBytes k.code tag p) 1 = tag := rfl
  rw [checkFrame_kind (by rw [length_frameBytes, hlength]) (byteSum_frameBytes _ _ _), hkind, ReqKind.ofCode_code, htag,
    hlength, payload_frameBytes]

/-- Settles O5: the frame by its fields and its sum, the checks in their order. -/
theorem frameChecksInOrder : Obligations.frameChecksInOrder := by
  refine ⟨fun k tag p hp => ?_, fun kind tag p => ⟨length_frameBytes kind tag p, byteSum_frameBytes kind tag p⟩,
    fun bytes h => checkFrame_badLength h, fun bytes h hsum => checkFrame_badCheck h hsum, fun bytes h hsum hkind => ?_⟩
  · rw [checkFrame_frameBytes k tag hp, checkLength, lengthFits]
    simp only [decide_eq_true_eq]
  · rw [checkFrame_kind h hsum, ReqKind.ofCode_eq_none hkind]

/-! ### The end of a write -/

section
variable {u : State} {f : CheckedFrame}

theorem endWrite_frame (h : 5 ≤ u.link.inbound.length) : endWrite u = arrive (checkFrame u.link.inbound) u :=
  if_neg (not_lt.2 h)

theorem arrive_held (h : u.link.fits f = false) : arrive f u = u.withLink (u.link.hold f) := if_neg (by simp [h])

/-- A request other than STANDBY, found in STANDBY_PENDING, is taken in AWAKE (R184). -/
theorem take_good_pending {k : ReqKind} (hk : k ≠ .standby) (h : u.opc.state = .standbyPending) (tag : Byte)
    (p : List Byte) :
    take (.good k tag p) u = own .standbyPending k tag p (u.withOpc { u.opc with state := .awake }) := by
  simp only [take, if_neg hk, returnToAwake, h, if_true]

theorem take_good {k : ReqKind} (h : k = .standby ∨ u.opc.state ≠ .standbyPending) (tag : Byte) (p : List Byte) :
    take (.good k tag p) u = own u.opc.state k tag p u := by
  rcases h with h | h <;> simp [take, returnToAwake, h]

end

/-- Settles O4: the end of a write by the state of the link, whether the reply fits, and what the checks made of the frame. -/
theorem writeEndChecksFrame : Obligations.writeEndChecksFrame := by
  intro dt s u f v
  have hexec : exec (.writeEnd dt) s = .next (settleStandby (writeEndEvent u)) := rfl
  have harrive (hs : u.link.state = .receiving) (hlong : 5 ≤ u.link.inbound.length) : writeEndEvent u = arrive f u := by
    rw [writeEndEvent_receiving hs, endWrite_frame hlong]
  have htake (hs : u.link.state = .receiving) (hlong : 5 ≤ u.link.inbound.length) (hfits : u.link.fits f = true) :
      writeEndEvent u = take f v := by
    rw [harrive hs hlong, arrive_of_fits hfits]
    rfl
  refine ⟨fun hs => ?_, fun hs hlong hfits => ?_, fun tag st hs hlong hfits hf => ?_,
    fun k tag p hs hlong hfits hf hk hpending => ?_, fun k tag p hs hlong hfits hf hopen => ?_⟩
  · rw [hexec, writeEndEvent_ignored hs]
  · rw [hexec, harrive hs hlong, arrive_held hfits, settleStandby_of_notIdle (by simp [Link.hold])]
    rfl
  · rw [hexec, htake hs hlong hfits, hf, take, settleStandby_of_queue (by simp [replyStatus, reply, Link.append])]
    rfl
  · rw [hexec, htake hs hlong hfits, hf, take_good_pending (u := v) hk hpending]
    rfl
  · rw [hexec, htake hs hlong hfits, hf, take_good (u := v) hopen]

end Sys2Proof.Machine
end

section
/-! Reads byte by byte (R165, R166) and the pending frame that a removed message makes room for (R162). -/

namespace Sys2Proof.Machine

/-! ### The acknowledge of a byte -/

section
variable {u : State} (ack : Bool)

/-- A byte is acknowledged or not while a message or an EMPTY frame goes on: only the end of the reading is noted (R165). -/
theorem handOff_goesOn (hh : u.link.handedOff = false) (h : u.link.emptyPos ≠ none ∨ u.link.queue ≠ []) :
    handOff ack u =
      { u with pins := { u.pins with acked := ack }, link := { u.link with handedOff := !ack } } := by
  have hasked : u.link.asked = { u.link with handedOff := false } := by
    have hnone : ¬(u.link.state = .sending ∧ u.link.emptyPos = none ∧ u.link.queue = []) := by tauto
    rw [Link.asked, if_neg hnone, ← hh]
  cases ack with
  | true => exact congrArg (setAck true u).withLink hasked
  | false => rfl

/-- After the last byte of a frame the acknowledge begins an EMPTY frame where the queue is empty (R166). -/
theorem handOff_atEnd (hs : u.link.state = .sending) (hh : u.link.handedOff = false) (he : u.link.emptyPos = none) :
    handOff ack u =
      { u with
        pins := { u.pins with acked := ack }
        link := { u.link with
          emptyPos := if ack = true ∧ u.link.queue = [] then some 0 else none, handedOff := !ack } } := by
  cases ack with
  | true =>
    have hasked : u.link.asked = { u.link with
        emptyPos := if u.link.queue = [] then some 0 else none, handedOff := false } := by
      by_cases hq : u.link.queue = []
      · rw [Link.asked, if_pos ⟨hs, he, hq⟩, if_pos hq, ← hh]
      · rw [Link.asked, if_neg fun h => hq h.2.2, if_neg hq, ← he, ← hh]
    simp only [true_and]
    exact congrArg (setAck true u).withLink hasked
  | false =>
    simp only [Bool.false_eq_true, false_and, if_false, ← he]
    rfl

/-! ### The bytes of a message and of an EMPTY frame -/

theorem serving_iff : serving u = true ↔ u.link.state = .sending ∧ u.link.handedOff = false := by simp [serving]

variable {ack} {m : Message} {rest : List Message} {k : Nat}

theorem byteSentEvent_released (h : ¬serving u = true) : byteSentEvent ack u = releasedByte ack u := if_neg h

theorem messageSentEvent_released (h : ¬serving u = true) : messageSentEvent ack u = releasedByte ack u := if_neg h

/-- A byte of the head message before its last (R165). -/
theorem byteSentEvent_head (hs : serving u = true) (he : u.link.emptyPos = none) (hq : u.link.queue = m :: rest)
    (hpos : u.link.readPos + 1 < m.size) :
    byteSentEvent ack u =
      handOff ack ((setSent (byteAt m.bytes u.link.readPos) u).withLink { u.link with readPos := u.link.readPos + 1 }) := by
  simp [byteSentEvent, hs, emptyNext, he, hq, hpos]

/-- The last byte of the head message, with which it leaves the queue (R165). -/
theorem messageSentEvent_head (hs : serving u = true) (he : u.link.emptyPos = none) (hq : u.link.queue = m :: rest)
    (hpos : u.link.readPos + 1 = m.size) :
    messageSentEvent ack u =
      handOff ack (takePending ((setSent (byteAt m.bytes u.link.readPos) u).withLink (u.link.dropHead m))) := by
  simp [messageSentEvent, hs, emptyNext, he, hq, hpos]

/-- A byte of an EMPTY frame before its last (R166). -/
theorem byteSentEvent_empty (hs : serving u = true) (hk : emptyNext u.link = some k) (h : k < 4) :
    byteSentEvent ack u = handOff ack ((setSent 0x00 u).withLink { u.link with emptyPos := some (k + 1) }) := by
  have hmore : k + 1 < emptySize := Nat.succ_lt_succ h
  simp [byteSentEvent, hs, hk, hmore]

/-- The last byte of an EMPTY frame (R166). -/
theorem messageSentEvent_empty (hs : serving u = true) (he : u.link.emptyPos = some 4) :
    messageSentEvent ack u = handOff ack ((setSent 0x00 u).withLink { u.link with emptyPos := none }) := by
  simp [messageSentEvent, hs, emptyNext, he, emptySize]

/-! ### The pending frame (R162) -/

variable {h : Held}

theorem takePending_none (hn : u.link.held = none) : takePending u = u := by simp only [takePending, hn]

theorem takePending_incomplete (hh : u.link.held = some h) (hc : ¬h.complete = true) : takePending u = u := by
  simp [takePending, hh, hc]

/-- A read goes on while a complete reservation's frame is taken. -/
theorem takePending_sending (hh : u.link.held = some h) (hc : h.complete = true) (hs : u.link.state = .sending) :
    takePending u = take h.frame (u.withLink { u.link with held := none, inbound := [] }) := by
  simp only [takePending, hh]
  simp [hc, hs]

theorem takePending_pending (hh : u.link.held = some h) (hc : h.complete = true) (hs : u.link.state = .pending) :
    takePending u = take h.frame (u.withLink { u.link with state := .idle, held := none, inbound := [] }) := by
  simp only [takePending, hh]
  simp [hc, hs]

end

/-- Settles O7: each byte by whether the read still serves, and by what it is a byte of. -/
theorem bytesSentInTurn : Obligations.bytesSentInTurn := by
  intro dt ack s m rest k u
  have hbyte : exec (.byteSent dt ack) s = .next (settleStandby (byteSentEvent ack u)) := rfl
  have hlast : exec (.messageSent dt ack) s = .next (settleStandby (messageSentEvent ack u)) := rfl
  refine ⟨fun hs hh he hq hpos => ?_, fun hs hh he hq hpos hheld => ?_, fun hs hh hk hlt => ?_, fun hs hh he => ?_,
    fun h => ?_⟩
  · have hsent := handOff_goesOn ack
      (u := (setSent (byteAt m.bytes u.link.readPos) u).withLink { u.link with readPos := u.link.readPos + 1 })
      hh (.inr (by simp [hq]))
    rw [hbyte, byteSentEvent_head (serving_iff.2 ⟨hs, hh⟩) he hq hpos, hsent,
      settleStandby_of_notIdle (by simp [hs])]
    rfl
  · have hnone : ((setSent (byteAt m.bytes u.link.readPos) u).withLink (u.link.dropHead m)).link.held = none := by
      simp [Link.dropHead, hheld]
    have hsent := handOff_atEnd ack
      (u := (setSent (byteAt m.bytes u.link.readPos) u).withLink (u.link.dropHead m)) hs hh he
    rw [hlast, messageSentEvent_head (serving_iff.2 ⟨hs, hh⟩) he hq hpos, takePending_none hnone, hsent,
      settleStandby_of_notIdle (by simp [Link.dropHead, hs])]
    simp [Link.dropHead, hq, hheld, setSent]
  · have hnext : emptyNext u.link = some k := by
      rcases hk with hk | ⟨he, hq, rfl⟩
      · simp [emptyNext, hk]
      · simp [emptyNext, he, hq]
    have hsent := handOff_goesOn ack (u := (setSent 0x00 u).withLink { u.link with emptyPos := some (k + 1) })
      hh (.inl (by simp))
    rw [hbyte, byteSentEvent_empty (serving_iff.2 ⟨hs, hh⟩) hnext hlt, hsent,
      settleStandby_of_notIdle (by simp [hs])]
    rfl
  · have hsent := handOff_atEnd ack (u := (setSent 0x00 u).withLink { u.link with emptyPos := none }) hs hh rfl
    rw [hlast, messageSentEvent_empty (serving_iff.2 ⟨hs, hh⟩) he, hsent,
      settleStandby_of_notIdle (by simp [hs])]
    rfl
  · have hreleased : ¬serving u = true := by
      rw [serving_iff]
      rintro ⟨hs, hh⟩
      simp [hs, hh] at h
    rw [hbyte, hlast, byteSentEvent_released hreleased, messageSentEvent_released hreleased]
    exact ⟨rfl, rfl⟩

/-- Settles O8: the removed message's bytes leave the reservation short or complete it, and PENDING_FRAME_TAKEN by whether it
is complete. -/
theorem pendingFrameTakenWhenComplete : Obligations.pendingFrameTakenWhenComplete := by
  intro dt s m rest h u
  have hlast : exec (.messageSent dt true) s = .next (settleStandby (messageSentEvent true u)) := rfl
  have htaken : exec (.pendingFrameTaken dt) s = .next (settleStandby (takePending u)) := rfl
  let dropped : State := (setSent (byteAt m.bytes u.link.readPos) u).withLink (u.link.dropHead m)
  have hgrown (hheld : u.link.held = some h) : dropped.link.held = some (h.grow m.size) := by
    simp [dropped, Link.dropHead, hheld]
  refine ⟨fun hs hh he hq hpos hheld hshort => ?_, fun hs hh he hq hpos hheld hfull => ?_, fun hs hheld hsize hplace => ?_,
    fun hheld hshort => ?_⟩
  · have hgrow : h.grow m.size = { h with bytes := h.bytes + m.size, place := true } := by
      rw [Held.grow, Nat.min_eq_right hshort.le]
    have hincomplete : ¬(h.grow m.size).complete = true := by
      rw [Held.complete_iff, hgrow]
      exact fun hc => absurd hc.1 (not_le.2 hshort)
    have hsent := handOff_atEnd true (u := dropped) hs hh he
    rw [hlast, messageSentEvent_head (serving_iff.2 ⟨hs, hh⟩) he hq hpos,
      takePending_incomplete (hgrown hheld) hincomplete, hsent,
      settleStandby_of_notIdle (by simp [dropped, Link.dropHead, hs])]
    simp [dropped, Link.dropHead, hq, hheld, hgrow, setSent, hh]
  · have hcomplete : (h.grow m.size).complete = true :=
      (Held.complete_iff _).2 ⟨(Nat.min_eq_left hfull).ge, rfl⟩
    rw [hlast, messageSentEvent_head (serving_iff.2 ⟨hs, hh⟩) he hq hpos,
      takePending_sending (hgrown hheld) hcomplete hs]
    have hrest : u.link.queue.tail = rest := by rw [hq, List.tail_cons]
    subst hrest
    rfl
  · rw [htaken, takePending_pending hheld ((Held.complete_iff h).2 ⟨hsize, hplace⟩) hs]
    rfl
  · have hincomplete : ¬h.complete = true := by
      rw [Held.complete_iff]
      rintro ⟨hsize, hplace⟩
      rcases hshort with hshort | hshort
      · omega
      · simp [hplace] at hshort
    rw [htaken, takePending_incomplete hheld hincomplete]

end Sys2Proof.Machine
end

section
/-! A request row is its transaction (R156 to R162; log entry 15): the address, the bytes of the frame one by one, the end of
the write. -/

namespace Sys2Proof.Machine

theorem exec_request {i : Instr} {dt : Nat} {k : ReqKind} {tag : Byte} {p : List Byte}
    (h : requestOf i = some (dt, k, tag, p)) (s : State) : exec i s = event dt (hostRequest k tag p) s := by
  unfold requestOf at h
  split at h <;> cases h <;> rfl

/-! ### Commands one after another -/

section
variable {s t : State} {c : Instr}

theorem runAll_cons (h : exec c s = .next t) (cs : List Instr) : runAll (c :: cs) s = runAll cs t := by
  simp only [runAll, h]

theorem runAll_append (cs ds : List Instr) (s : State) : runAll (cs ++ ds) s = runAll ds (runAll cs s) := by
  induction cs generalizing s with
  | nil => rfl
  | cons c cs ih =>
    obtain ⟨t, ht⟩ := exec_settles c s
    rw [List.cons_append, runAll_cons ht, runAll_cons ht, ih]

theorem advance_zero (s : State) : advance 0 s = s := by
  unfold advance
  split <;> rfl

theorem setAck_of_acked (h : s.pins.acked = true) : setAck true s = s := by
  rw [setAck, ← h]
  rfl

/-- The bytes of a write that fit the buffer are stored one by one and leave the link RECEIVING (R159). -/
theorem runAll_dataBytes (bytes : List Byte) (hs : s.link.state = .receiving) (hack : s.pins.acked = true)
    (hroom : s.link.inbound.length + bytes.length ≤ maxInbound) :
    runAll (bytes.map (.dataByteWritten 0)) s = s.withLink { s.link with inbound := s.link.inbound ++ bytes } := by
  induction bytes generalizing s with
  | nil => rw [List.append_nil]; rfl
  | cons b bytes ih =>
    rw [List.length_cons] at hroom
    have hstored : dataByteEvent b s = s.withLink { s.link with inbound := s.link.inbound ++ [b] } := by
      rw [dataByteEvent_stored hs (by omega)]
      exact setAck_of_acked hack
    have hexec : exec (.dataByteWritten 0 b) s = .next (s.withLink { s.link with inbound := s.link.inbound ++ [b] }) := by
      rw [exec, execDataByteWritten, event, advance_zero, hstored, settleStandby_of_notIdle (by simp [hs])]
    have hroom' : (s.link.inbound ++ [b]).length + bytes.length ≤ maxInbound := by
      rw [List.length_append, List.length_singleton]
      omega
    rw [List.map_cons, runAll_cons hexec, ih (s := s.withLink { s.link with inbound := s.link.inbound ++ [b] }) hs hack hroom']
    simp

/-- The bytes of a request frame and the end of their write leave the state that the arrived frame leaves (R160). -/
theorem runAll_write {k : ReqKind} {tag : Byte} {p : List Byte} (hs : s.link.state = .receiving)
    (hempty : s.link.inbound = []) (hack : s.pins.acked = true) (hp : p.length ≤ 300) :
    runAll ((frameBytes k.code tag p).map (.dataByteWritten 0) ++ [.writeEnd 0]) s =
      settleStandby (arrive (checkLength k tag p) (s.withLink { s.link with inbound := frameBytes k.code tag p })) := by
  have hsize := length_frameBytes k.code tag p
  let w : State := s.withLink { s.link with inbound := frameBytes k.code tag p }
  have hbytes : runAll ((frameBytes k.code tag p).map (.dataByteWritten 0)) s = w := by
    rw [runAll_dataBytes _ hs hack (by rw [hempty, hsize, maxInbound, List.length_nil]; omega), hempty, List.nil_append]
  have hinbound : w.link.inbound = frameBytes k.code tag p := rfl
  have hend : exec (.writeEnd 0) w = .next (settleStandby (arrive (checkLength k tag p) w)) := by
    rw [exec, execWriteEnd, event, advance_zero, writeEndEvent_receiving (u := w) hs,
      endWrite_frame (by rw [hinbound]; omega), hinbound, checkFrame_frameBytes k tag hp]
  rw [runAll_append, hbytes]
  exact runAll_cons hend []

end

/-! ### The transaction -/

section
variable {u : State} {k : ReqKind} {tag : Byte} {p : List Byte}

/-- The address of a write is acknowledged between transactions (R158). -/
theorem addressEvent_idle (hset : StandbySettled u) (hs : u.link.state = .idle) (hlow : lrelLow u = false) :
    addressEvent u.link.address false u =
      setAck true (u.withLink { u.link with state := .receiving, inbound := [] }) := by
  rw [addressEvent_between hset (by simp [hs]) (by simp [hs]), if_pos rfl, judgeAddress_write hs hlow]

theorem hostRequest_acknowledged (h : (addressEvent u.link.address false u).link.state = .receiving) :
    hostRequest k tag p u =
      arrive (checkLength k tag p) ((addressEvent u.link.address false u).withLink
        { (addressEvent u.link.address false u).link with inbound := (frameBytes k.code tag p).take maxInbound }) :=
  if_pos h

theorem hostRequest_refused (h : (addressEvent u.link.address false u).link.state ≠ .receiving) :
    hostRequest k tag p u = addressEvent u.link.address false u := if_neg h

/-- The address of a write is refused by a link that is CLOSED or PENDING, and while LREL is low (R158, R169). -/
theorem addressEvent_refused (hset : StandbySettled u)
    (h : u.link.state = .closed ∨ u.link.state = .pending ∨ (u.link.state = .idle ∧ lrelLow u = true)) :
    (addressEvent u.link.address false u).link.state ≠ .receiving := by
  have hr : u.link.state ≠ .receiving := by rcases h with h | h | ⟨h, -⟩ <;> simp [h]
  have hs : u.link.state ≠ .sending := by rcases h with h | h | ⟨h, -⟩ <;> simp [h]
  rw [addressEvent_between hset hr hs, if_pos rfl]
  rcases h with h | h | ⟨h, hlow⟩
  · rw [judgeAddress_closed h]
    split <;> simp [setAck, beginWake, h]
  · rw [judgeAddress_pending_write h]
    simp [setAck, h]
  · rw [judgeAddress_low hr hs (by simp [h]) hlow]
    simp [setAck, h]

end

/-- Settles O6: the acknowledged address begins a write whose bytes are the frame's, the refused one is all that happens. -/
theorem requestRowIsItsTransaction : Obligations.requestRowIsItsTransaction := by
  intro i dt k tag p s u hi hp hset
  have hrow : exec i s = .next (settleStandby (hostRequest k tag p u)) := exec_request hi s
  have haddr : s.link.address = u.link.address := by
    show s.link.address = (advance dt s).link.address
    rw [advance]
    split <;> rfl
  have haddress : exec (.addressByte dt s.link.address false) s =
      .next (settleStandby (addressEvent u.link.address false u)) := by
    rw [haddr]; rfl
  refine ⟨fun hs hlow => ?_, fun hrefused => ?_⟩
  · let v : State := setAck true (u.withLink { u.link with state := .receiving, inbound := [] })
    have hv : addressEvent u.link.address false u = v := addressEvent_idle hset hs hlow
    have hstart : exec (.addressByte dt s.link.address false) s = .next v := by
      rw [haddress, hv, settleStandby_of_notIdle (by simp [v, setAck])]
    have hroom : (frameBytes k.code tag p).length ≤ maxInbound := by
      rw [length_frameBytes, maxInbound]
      omega
    rw [hrow, hostRequest_acknowledged (by rw [hv]; rfl), hv, List.take_of_length_le hroom, List.append_assoc,
      List.singleton_append, runAll_cons hstart, runAll_write (s := v) rfl rfl rfl hp]
  · rw [hrow, haddress, hostRequest_refused (addressEvent_refused hset hrefused)]

end Sys2Proof.Machine
end

section
/-! What every operation leaves alone: the queue of commands, which no command reaches, and the parameters, which CONFIGURE alone
sets one by one and a reset puts at their defaults (R188, R182). -/

namespace Sys2Proof.Machine

/-- From `s` to `t` the queue of commands stays as it is, and parameters that lie in their ranges go on to. -/
structure KeepsParams (s t : State) : Prop where
  pending : t.pending = s.pending
  ranges : ParamsInRange s → ParamsInRange t

theorem KeepsParams.refl (s : State) : KeepsParams s s := ⟨rfl, id⟩

theorem KeepsParams.trans {s t u : State} (h : KeepsParams s t) (k : KeepsParams t u) : KeepsParams s u :=
  ⟨k.pending.trans h.pending, k.ranges ∘ h.ranges⟩

theorem KeepsParams.ite {s t u : State} {c : Prop} [Decidable c] (h : KeepsParams s t) (k : KeepsParams s u) :
    KeepsParams s (if c then t else u) := by
  split
  · exact h
  · exact k

theorem KeepsParams.foldl {β : Type} {f : State → β → State} (h : ∀ s x, KeepsParams s (f s x)) (l : List β) (s : State) :
    KeepsParams s (l.foldl f s) := by
  induction l generalizing s with
  | nil => exact .refl s
  | cons x l ih => exact (h s x).trans (ih (f s x))

/-- The fields that decide. -/
theorem KeepsParams.of_same {s t : State} (hpending : t.pending = s.pending) (hparams : t.opc.params = s.opc.params) :
    KeepsParams s t :=
  ⟨hpending, fun h => by unfold ParamsInRange at *; rwa [hparams]⟩

/-- Every block but the operating record and the queue of commands. -/
def Blocks.besideOpc : Blocks :=
  { now := true, draws := true, pins := true, link := true, lib := true, cap := true, lrn := true, rcg := true,
    routes := true, ems := true, channels := true }

theorem Blocks.besideOpc_emission : Blocks.besideOpc.emission := ⟨rfl, rfl, rfl, rfl⟩

theorem Blocks.besideOpc_learning : Blocks.besideOpc.learning := ⟨rfl, rfl, rfl⟩

theorem Blocks.besideOpc_pressing : Blocks.besideOpc.pressing := ⟨rfl, Blocks.besideOpc_emission⟩

theorem KeepsParams.of_changes {s t : State} (h : Changes Blocks.besideOpc s t) : KeepsParams s t :=
  .of_same (h.pending rfl) (by rw [h.opc rfl])

/-! ### Replies -/

theorem reply_keepsParams (tag : Byte) (st : Status) (more : List Byte) (s : State) : KeepsParams s (reply tag st more s) :=
  .of_same rfl rfl

theorem replyStatus_keepsParams (tag : Byte) (st : Status) (s : State) : KeepsParams s (replyStatus tag st s) :=
  .of_same rfl rfl

/-! ### The Learn Unit and the masking condition -/

theorem setCtx_keepsParams (s : State) (input : Source) (x : Context) : KeepsParams s (setCtx s input x) := .of_same rfl rfl

theorem failSession_keepsParams (x : Session) (w : LearnOutcome) (c : Nat) (s : State) :
    KeepsParams s (failSession x w c s) :=
  .of_changes (failSession_changes Blocks.besideOpc_learning x w c s)

theorem reduceSession_keepsParams (x : Session) (s : State) : KeepsParams s (reduceSession x s) :=
  .of_changes (reduceSession_changes Blocks.besideOpc_learning x s)

theorem learnTakesFrame_keepsParams (input : Source) (f : Frame) (m : Option Measurement) (s : State) :
    KeepsParams s (learnTakesFrame input f m s) :=
  .of_changes (learnTakesFrame_changes Blocks.besideOpc_learning input f m s)

theorem learnTakesError_keepsParams (input : Source) (e : CaptureError) (t : Stamp) (s : State) :
    KeepsParams s (learnTakesError input e t s) :=
  .of_changes (learnTakesError_changes Blocks.besideOpc_learning input e t s)

theorem withMasking_keepsParams {f : State → State} {s : State} (h : KeepsParams s (f s)) :
    KeepsParams s (withMasking f s) :=
  .ite (h.trans (.of_changes (maskingRises_changes Blocks.besideOpc_learning _)))
    (.ite (h.trans (.of_changes (maskingEnds_changes rfl _))) h)

/-! ### The Emission Scheduler and the channels -/

theorem updateChannel_keepsParams (s : State) (e : Emitter) (f : Channel → Channel) :
    KeepsParams s (updateChannel s e f) := .of_same rfl rfl

theorem updateParticipants_keepsParams (j : Job) (f : Channel → Channel) (s : State) :
    KeepsParams s (updateParticipants j f s) := .of_same rfl rfl

theorem setPhase_keepsParams (id : Nat) (ph : PlayPhase) (s : State) : KeepsParams s (setPhase id ph s) := .of_same rfl rfl

theorem examine_keepsParams (s : State) : KeepsParams s (examine s) :=
  .of_changes (examine_changes Blocks.besideOpc_emission s)

theorem endJob_keepsParams (id : Nat) (o : JobOutcome) (s : State) : KeepsParams s (endJob id o s) :=
  .of_changes (endJob_changes Blocks.besideOpc_emission id o s)

theorem startStep_keepsParams (id k moment : Nat) (afterSend : Bool) (s : State) :
    KeepsParams s (startStep id k moment afterSend s) :=
  .of_changes (startStep_changes Blocks.besideOpc_emission id k moment afterSend s)

theorem driveFault_keepsParams (e : Emitter) (kind : FaultKind) (s : State) : KeepsParams s (driveFault e kind s) :=
  .of_changes (driveFault_changes Blocks.besideOpc_emission e kind s)

/-! ### The time lines of jobs and the drive (R126 to R133, R136 to R141) -/

theorem startFrame_keepsParams (j : Job) (p : Play) (r : Record) (start : Nat) (s : State) :
    KeepsParams s (startFrame j p r start s) := by
  unfold startFrame
  exact withMasking_keepsParams ((updateParticipants_keepsParams _ _ s).trans (setPhase_keepsParams _ _ _))

theorem frameStartEvent_keepsParams (id : Nat) (s : State) : KeepsParams s (frameStartEvent id s) := by
  unfold frameStartEvent
  split
  · exact .refl s
  · split
    · exact .ite (startFrame_keepsParams _ _ _ _ s) (.refl s)
    · exact .refl s

theorem elementEndEvent_keepsParams (id : Nat) (s : State) : KeepsParams s (elementEndEvent id s) := by
  unfold elementEndEvent
  split
  · exact .refl s
  · split
    · dsimp only
      split
      · exact .refl s
      · exact .ite ((updateParticipants_keepsParams _ _ s).trans (setPhase_keepsParams _ _ _)) (.refl s)
    · exact .refl s

theorem stepEnds_keepsParams (j : Job) (steps : List Machine.Step) (moment : Nat) (wasSend : Bool) (s : State) :
    KeepsParams s (stepEnds j steps moment wasSend s) := by
  unfold stepEnds
  split
  · exact endJob_keepsParams _ _ s
  · exact startStep_keepsParams _ _ _ _ s
  · exact .ite (setPhase_keepsParams _ _ s) (startStep_keepsParams _ _ _ _ s)

theorem afterFrame_keepsParams (j : Job) (p : Play) (r : Record) (run : FrameRun) (s : State) :
    KeepsParams s (afterFrame j p r run s) := by
  have hnext : KeepsParams s (nextFrame j r run s) := setPhase_keepsParams _ _ s
  have hend (why : JobOutcome) : KeepsParams s (endJob j.id why s) := endJob_keepsParams _ why s
  unfold afterFrame
  split
  · exact .refl s
  · exact .ite (hend _) hnext
  · split
    · exact .ite (hend _) hnext
    · exact hnext
    · split
      · exact .ite (stepEnds_keepsParams _ _ _ _ s) hnext
      · exact hnext

theorem frameEndEvent_keepsParams (id : Nat) (s : State) : KeepsParams s (frameEndEvent id s) := by
  unfold frameEndEvent
  split
  · exact .refl s
  · split
    · refine .ite (KeepsParams.trans ?_ (examine_keepsParams _)) (.refl s)
      refine KeepsParams.trans ?_ (afterFrame_keepsParams _ _ _ _ _)
      exact .of_same rfl rfl
    · exact .refl s

theorem pauseEndEvent_keepsParams (id : Nat) (s : State) : KeepsParams s (pauseEndEvent id s) := by
  unfold pauseEndEvent
  split
  · exact .refl s
  · split
    · exact .ite ((stepEnds_keepsParams _ _ _ _ s).trans (examine_keepsParams _)) (.refl s)
    · exact .refl s

theorem sendStepStartEvent_keepsParams (id : Nat) (s : State) : KeepsParams s (sendStepStartEvent id s) := by
  unfold sendStepStartEvent
  split
  · exact .refl s
  · split
    · exact .ite ((startStep_keepsParams _ _ _ _ s).trans (examine_keepsParams _)) (.refl s)
    · exact .refl s

theorem holdDeadlineEvent_keepsParams (id : Nat) (s : State) : KeepsParams s (holdDeadlineEvent id s) := by
  unfold holdDeadlineEvent
  split
  · exact .refl s
  · exact .ite ((KeepsParams.of_changes (enterEnding_changes Blocks.besideOpc_emission _ _ s)).trans
      (examine_keepsParams _)) (.refl s)

theorem pulseEdgeEvent_keepsParams (e : Emitter) (s : State) : KeepsParams s (pulseEdgeEvent e s) := by
  unfold pulseEdgeEvent
  split
  · exact .ite (updateChannel_keepsParams s e _) (.refl s)
  · exact .refl s

theorem maskWindowCloseEvent_keepsParams (e : Emitter) (s : State) : KeepsParams s (maskWindowCloseEvent e s) := by
  unfold maskWindowCloseEvent
  split
  · exact .ite (withMasking_keepsParams (updateChannel_keepsParams s e _)) (.refl s)
  · exact .refl s

theorem openWindowCloseEvent_keepsParams (e : Emitter) (s : State) : KeepsParams s (openWindowCloseEvent e s) :=
  .ite (driveFault_keepsParams e _ s) (.refl s)

theorem overcurrentEvent_keepsParams (e : Emitter) (s : State) : KeepsParams s (overcurrentEvent e s) :=
  .ite (driveFault_keepsParams e _ s) (.refl s)

/-! ### The Recognizer (R91, R96, R97) -/

theorem beginWake_keepsParams (cause : WakeCause) (s : State) : KeepsParams s (beginWake cause s) := .of_same rfl rfl

theorem actOnFrame_keepsParams (d : List Nat) (s : State) : KeepsParams s (actOnFrame d s) :=
  .of_changes (actOnFrame_changes Blocks.besideOpc_pressing d s)

theorem recognizerTakesFrame_keepsParams (d : List Nat) (s : State) : KeepsParams s (recognizerTakesFrame d s) := by
  unfold recognizerTakesFrame
  split
  · exact actOnFrame_keepsParams d s
  · exact actOnFrame_keepsParams d s
  · unfold standbyFrame
    split
    · exact .ite (.of_same rfl rfl) (.refl s)
    · exact .refl s
  · exact .of_same rfl rfl
  · exact .refl s

theorem actOnKept_keepsParams (s : State) : KeepsParams s (actOnKept s) :=
  .of_changes (actOnKept_changes Blocks.besideOpc_pressing s)

theorem releaseTimerEvent_keepsParams (s : State) : KeepsParams s (releaseTimerEvent s) := by
  unfold releaseTimerEvent
  split
  · exact .ite (.of_changes (endPress_changes Blocks.besideOpc_pressing _ _ s)) (.refl s)
  · exact .refl s

/-! ### The Capture Unit and the learn timers (R43 to R51, R65, R68) -/

theorem deliverSense_keepsParams (f : Frame) (s : State) : KeepsParams s (deliverSense f s) := by
  have hdraw : KeepsParams s (countDraw s) := .of_same rfl rfl
  unfold deliverSense
  split
  · exact recognizerTakesFrame_keepsParams _ s
  · exact .ite ((hdraw.trans (recognizerTakesFrame_keepsParams _ _)).trans (learnTakesFrame_keepsParams _ _ _ _))
      ((hdraw.trans (learnTakesFrame_keepsParams _ _ _ _)).trans (recognizerTakesFrame_keepsParams _ _))

theorem deliverLearn_keepsParams (f : Frame) (m : Option Measurement) (s : State) :
    KeepsParams s (deliverLearn f m s) := by
  unfold deliverLearn
  split
  · exact .ite (learnTakesFrame_keepsParams _ _ _ s) (learnTakesError_keepsParams _ _ _ s)
  · exact learnTakesFrame_keepsParams _ _ _ s

theorem frameEnds_keepsParams (input : Source) (s : State) : KeepsParams s (frameEnds input s) := by
  cases input with
  | sense => exact (setCtx_keepsParams s .sense _).trans (deliverSense_keepsParams _ _)
  | learn => exact (setCtx_keepsParams s .learn _).trans (deliverLearn_keepsParams _ _ _)

theorem captureError_keepsParams (input : Source) (e : CaptureError) (s : State) :
    KeepsParams s (captureError input e s) :=
  (setCtx_keepsParams s input _).trans (learnTakesError_keepsParams input e _ _)

theorem takeEnvelope_keepsParams (input : Source) (s : State) : KeepsParams s (takeEnvelope input s) :=
  .ite (setCtx_keepsParams s input _) (.refl s)

theorem takeSettled_keepsParams (input : Source) (s : State) : KeepsParams s (takeSettled input s) :=
  .ite (setCtx_keepsParams s input _) (.refl s)

theorem takeGap_keepsParams (input : Source) (s : State) : KeepsParams s (takeGap input s) :=
  .ite (frameEnds_keepsParams input s) (.refl s)

theorem takeCandidate_keepsParams (input : Source) (s : State) : KeepsParams s (takeCandidate input s) :=
  .ite (.ite (captureError_keepsParams input _ s) (setCtx_keepsParams s input _)) (.refl s)

theorem takeLong_keepsParams (input : Source) (s : State) : KeepsParams s (takeLong input s) :=
  .ite (captureError_keepsParams input _ s) (.refl s)

theorem catchUp_keepsParams (input : Source) (s : State) : KeepsParams s (catchUp input s) := by
  have hsettle (c : Prop) [Decidable c] (s : State) : KeepsParams s (if c then ctxIdle input s else s) :=
    .ite (setCtx_keepsParams s input _) (.refl s)
  have hgap (c : Prop) [Decidable c] (s : State) : KeepsParams s (if c then takeGap input s else s) :=
    .ite (takeGap_keepsParams input s) (.refl s)
  exact (((takeEnvelope_keepsParams input s).trans (hsettle _ _)).trans (hgap _ _)).trans
    ((takeCandidate_keepsParams input _).trans (takeLong_keepsParams input _))

/-- A level of an input, and what its context makes of the edge. -/
theorem setCtx_setLevel_keepsParams (input : Source) (level : Bool) (x : Context) (s : State) :
    KeepsParams s (setCtx (setLevel input level s) input x) := .of_same rfl rfl

theorem riseEvent_keepsParams (input : Source) (s : State) : KeepsParams s (riseEvent input s) :=
  (catchUp_keepsParams input s).trans (.ite (.refl _)
    (((setCtx_setLevel_keepsParams input _ _ _).trans (takeCandidate_keepsParams input _)).trans
      (takeLong_keepsParams input _)))

theorem fallEvent_keepsParams (input : Source) (s : State) : KeepsParams s (fallEvent input s) :=
  (catchUp_keepsParams input s).trans (.ite (setCtx_setLevel_keepsParams input _ _ _) (.refl _))

theorem candidateEvent_keepsParams (input : Source) (s : State) : KeepsParams s (candidateEvent input s) :=
  (takeEnvelope_keepsParams input s).trans (takeCandidate_keepsParams input _)

theorem gapEvent_keepsParams (input : Source) (s : State) : KeepsParams s (gapEvent input s) :=
  (takeEnvelope_keepsParams input s).trans (takeGap_keepsParams input _)

theorem longEvent_keepsParams (input : Source) (s : State) : KeepsParams s (longEvent input s) :=
  (takeEnvelope_keepsParams input s).trans (takeLong_keepsParams input _)

theorem windowEvent_keepsParams (s : State) : KeepsParams s (windowEvent s) := by
  unfold windowEvent
  split
  · exact .ite (failSession_keepsParams _ _ _ s) (.refl s)
  · exact .refl s

theorem endGapEvent_keepsParams (s : State) : KeepsParams s (endGapEvent s) := by
  unfold endGapEvent
  split
  · exact .ite (.of_changes (endGapExpires_changes Blocks.besideOpc_learning _ s)) (.refl s)
  · exact .refl s

/-! ### The library and its mount (R19 to R28, R34 to R37) -/

theorem segmentVerifyEvent_keepsParams (agrees : Bool) (s : State) : KeepsParams s (segmentVerifyEvent agrees s) := by
  unfold segmentVerifyEvent
  split
  · exact .refl s
  · split
    · exact .ite (.ite (.of_same rfl rfl) (.of_same rfl rfl)) (.refl s)
    · exact .refl s

theorem endOp_keepsParams (op : LibOp) (fault : Bool) (s : State) : KeepsParams s (endOp op fault s) := .of_same rfl rfl

theorem setDirectory_keepsParams (d : List (Nat × DirEntry)) (s : State) : KeepsParams s (setDirectory d s) :=
  .of_same rfl rfl

theorem releaseOldChain_keepsParams (op : LibOp) (old : List Nat) (s : State) :
    KeepsParams s (releaseOldChain op old s) :=
  .ite (endOp_keepsParams op _ s) (.of_same rfl rfl)

theorem commitEvent_keepsParams (s : State) : KeepsParams s (commitEvent s) := by
  unfold commitEvent
  split
  · exact .refl s
  · refine .ite ?_ (.refl s)
    have hnews (d : List (Nat × DirEntry)) (kind : NewsKind) (slot : Nat) (new : Option (Record × SlotFlags)) :
        KeepsParams s (commitNews kind slot new (setDirectory d s)) :=
      (setDirectory_keepsParams d s).trans (.of_changes (commitNews_changes Blocks.besideOpc_pressing kind slot new _))
    dsimp only
    split
    · exact (hnews _ _ _ _).trans (endOp_keepsParams _ _ _)
    · exact (hnews _ _ _ _).trans (releaseOldChain_keepsParams _ _ _)
    · exact (hnews _ _ _ _).trans (releaseOldChain_keepsParams _ _ _)

theorem releaseNext_keepsParams (op : LibOp) (n m : Nat) (fault : Bool) (s : State) :
    KeepsParams s (releaseNext op n m fault s) :=
  .ite (endOp_keepsParams op _ s) (.of_same rfl rfl)

theorem eraseSegment_keepsParams (n : Nat) (s : State) : KeepsParams s (eraseSegment n s) := .of_same rfl rfl

theorem segmentErasedEvent_keepsParams (s : State) : KeepsParams s (segmentErasedEvent s) := by
  unfold segmentErasedEvent
  split
  · exact .refl s
  · split
    · refine .ite ?_ (.refl s)
      split
      · exact (eraseSegment_keepsParams _ s).trans (releaseNext_keepsParams _ _ _ _ _)
      · exact (eraseSegment_keepsParams _ s).trans (releaseNext_keepsParams _ _ _ _ _)
      · exact .refl s
    · exact .refl s

theorem setMount_keepsParams (stage : MountStage) (repaired reclaimed : Nat) (s : State) :
    KeepsParams s (setMount stage repaired reclaimed s) := .of_same rfl rfl

theorem mountEnds_keepsParams (repaired reclaimed : Nat) (s : State) : KeepsParams s (mountEnds repaired reclaimed s) :=
  .of_same rfl rfl

theorem withLib_keepsParams (s : State) (l : Lib) : KeepsParams s (s.withLib l) := .of_same rfl rfl

theorem beginReclaim_keepsParams (moment repaired : Nat) (s : State) : KeepsParams s (beginReclaim moment repaired s) := by
  unfold beginReclaim
  dsimp only
  split
  · exact (withLib_keepsParams s _).trans (mountEnds_keepsParams _ _ _)
  · exact (withLib_keepsParams s _).trans (setMount_keepsParams _ _ _ _)

theorem scanCompleteEvent_keepsParams (decayed : List (Nat × List Byte)) (s : State) :
    KeepsParams s (scanCompleteEvent decayed s) := by
  unfold scanCompleteEvent
  split
  · refine .ite ?_ (.refl s)
    dsimp only
    split
    · exact (withLib_keepsParams s _).trans (beginReclaim_keepsParams _ _ _)
    · exact (withLib_keepsParams s _).trans (setMount_keepsParams _ _ _ _)
  · exact .refl s

theorem repairCommitEvent_keepsParams (s : State) : KeepsParams s (repairCommitEvent s) := by
  unfold repairCommitEvent
  split
  · refine .ite ?_ (.refl s)
    dsimp only
    split
    · exact (withLib_keepsParams s _).trans (beginReclaim_keepsParams _ _ _)
    · exact (withLib_keepsParams s _).trans (setMount_keepsParams _ _ _ _)
  · exact .refl s

theorem reclaimEraseEvent_keepsParams (s : State) : KeepsParams s (reclaimEraseEvent s) := by
  unfold reclaimEraseEvent
  split
  · refine .ite ?_ (.refl s)
    dsimp only
    split
    · exact (eraseSegment_keepsParams _ s).trans (mountEnds_keepsParams _ _ _)
    · exact (eraseSegment_keepsParams _ s).trans (setMount_keepsParams _ _ _ _)
  · exact .refl s

/-! ### The resets, standby and wake (R182, R183, R185, R187) -/

/-- The defaults of Table 12-4 lie in their ranges. -/
theorem paramsInRange_of_reset {t : State} (h : t.opc.params = Params.reset) : ParamsInRange t := by
  unfold ParamsInRange
  rw [h]
  decide

/-- A reset leaves the queue of commands, and puts the parameters at their defaults. -/
theorem resetPart_keepsParams (cause : ResetCause) (a : BitVec 7) (stage : MountStage) (s : State) :
    KeepsParams s (resetPart cause a stage s) :=
  ⟨(cutLibrary_changes s).pending rfl, fun _ => paramsInRange_of_reset rfl⟩

theorem setSupply_keepsParams (powered rstnLow : Bool) (s : State) : KeepsParams s (setSupply powered rstnLow s) :=
  .of_same rfl rfl

theorem powerOnEvent_keepsParams (straps : Straps) (s : State) : KeepsParams s (powerOnEvent straps s) :=
  (resetPart_keepsParams _ _ _ s).trans (setSupply_keepsParams _ _ _)

theorem rstnAssertedEvent_keepsParams (straps : Straps) (s : State) : KeepsParams s (rstnAssertedEvent straps s) :=
  .ite (.refl s) (.ite ((resetPart_keepsParams _ _ _ s).trans (setSupply_keepsParams _ _ _)) (setSupply_keepsParams _ _ s))

theorem rstnReleasedEvent_keepsParams (s : State) : KeepsParams s (rstnReleasedEvent s) :=
  .ite (.ite ((setSupply_keepsParams _ _ s).trans (setMount_keepsParams _ _ _ _)) (setSupply_keepsParams _ _ s)) (.refl s)

theorem powerLossEvent_keepsParams (s : State) : KeepsParams s (powerLossEvent s) :=
  .ite ((resetPart_keepsParams _ _ _ s).trans (setSupply_keepsParams _ _ _)) (.refl s)

theorem settleStandby_keepsParams (s : State) : KeepsParams s (settleStandby s) := .ite (.of_same rfl rfl) (.refl s)

theorem wakeCompletionEvent_keepsParams (s : State) : KeepsParams s (wakeCompletionEvent s) := by
  unfold wakeCompletionEvent
  split
  · refine .ite (KeepsParams.trans ?_ (actOnKept_keepsParams _)) (.refl s)
    exact .of_same rfl rfl
  · exact .refl s

end Sys2Proof.Machine
end

section
/-! What every command leaves alone: the requests and the link over the operations, CONFIGURE by its pairs, and the step
(R182, R188). -/

namespace Sys2Proof.Machine

/-! ### Operating Control (R184, R188, R189) -/

theorem returnToAwake_keepsParams (s : State) : KeepsParams s (returnToAwake s) := .ite (.of_same rfl rfl) (.refl s)

/-- A parameter set to a value of its range stays in its range, and so do the others: the range of each id is the condition
on its parameter (Table 12-4). -/
theorem paramsInRange_setParams {s : State} {id value : Nat} (h : paramOk id value = true) (hs : ParamsInRange s) :
    ParamsInRange (setParams (s.opc.params.update id value) s) := by
  unfold paramOk paramRange at h
  unfold ParamsInRange setParams Params.update at *
  split at h
  · next heq =>
    split at heq <;> simp_all
  · cases h

theorem setParams_keepsParams {s : State} {id value : Nat} (h : paramOk id value = true) :
    KeepsParams s (setParams (s.opc.params.update id value) s) :=
  ⟨rfl, paramsInRange_setParams h⟩

theorem applyPair_keepsParams {s : State} {pair : Nat × Nat} (h : paramOk pair.1 pair.2 = true) :
    KeepsParams s (applyPair s pair) := by
  have hset : KeepsParams s (setParams (s.opc.params.update pair.1 pair.2) s) := setParams_keepsParams h
  have hoff (t : State) : KeepsParams t (discarding .sense (ctxOff .sense) t) :=
    .of_changes (discarding_changes Blocks.besideOpc_learning .sense (fun u => setCtx_changes rfl u .sense _) t)
  exact .ite (hset.trans (hoff _)) (.ite (hset.trans (setCtx_keepsParams _ .sense _)) hset)

/-- Good pairs applied one after another (R188). -/
theorem foldl_applyPair_keepsParams {pairs : List (Nat × Nat)} (h : ∀ y ∈ pairs, paramOk y.1 y.2 = true) (s : State) :
    KeepsParams s (pairs.foldl applyPair s) := by
  induction pairs generalizing s with
  | nil => exact .refl s
  | cons y pairs ih =>
    obtain ⟨hy, hrest⟩ := List.forall_mem_cons.1 h
    exact (applyPair_keepsParams hy).trans (ih hrest _)

/-- CONFIGURE applies its pairs only where all of them are good (R188). -/
theorem ownConfigure_keepsParams (tag : Byte) (p : List Byte) (s : State) : KeepsParams s (ownConfigure tag p s) := by
  unfold ownConfigure
  refine .ite (replyStatus_keepsParams tag _ s) ?_
  split
  · exact reply_keepsParams tag _ _ s
  · next hgood =>
    rw [List.findIdx?_eq_none_iff] at hgood
    exact (replyStatus_keepsParams tag _ s).trans (foldl_applyPair_keepsParams (by simpa using hgood) _)

theorem ownReadConfig_keepsParams (tag : Byte) (p : List Byte) (s : State) : KeepsParams s (ownReadConfig tag p s) := by
  unfold ownReadConfig
  split
  · exact reply_keepsParams tag _ _ s
  · exact reply_keepsParams tag _ _ s

theorem ownStandby_keepsParams (tag : Byte) (s : State) : KeepsParams s (ownStandby tag s) := .of_same rfl rfl

theorem resetRequest_keepsParams (s : State) : KeepsParams s (resetRequest s) := resetPart_keepsParams _ _ _ s

/-! ### The Learn Unit and the library -/

theorem beginSession_keepsParams (source : Source) (window hint : Nat) (tag : Byte) (s : State) :
    KeepsParams s (beginSession source window hint tag s) := by
  cases source with
  | learn => exact .of_same rfl rfl
  | sense => exact .of_same rfl rfl

theorem ownLearnStart_keepsParams (tag : Byte) (p : List Byte) (s : State) : KeepsParams s (ownLearnStart tag p s) := by
  have hrefused (st : Status) : KeepsParams s (replyStatus tag st s) := replyStatus_keepsParams tag st s
  unfold ownLearnStart
  split
  · exact hrefused _
  · exact .ite (.ite (hrefused _) ((hrefused .ok).trans (beginSession_keepsParams _ _ _ _ _))) (hrefused _)

theorem ownLearnStop_keepsParams (tag : Byte) (s : State) : KeepsParams s (ownLearnStop tag s) := by
  unfold ownLearnStop
  split
  · exact replyStatus_keepsParams tag _ s
  · split
    · exact (replyStatus_keepsParams tag _ s).trans (failSession_keepsParams _ _ _ _)
    · exact (replyStatus_keepsParams tag _ s).trans (reduceSession_keepsParams _ _)

theorem ownReadStaged_keepsParams (tag : Byte) (s : State) : KeepsParams s (ownReadStaged tag s) := by
  unfold ownReadStaged
  split
  · exact reply_keepsParams tag _ _ s
  · exact replyStatus_keepsParams tag _ s

theorem ownStore_keepsParams (tag : Byte) (p : List Byte) (s : State) : KeepsParams s (ownStore tag p s) := by
  have hrefused (st : Status) : KeepsParams s (replyStatus tag st s) := replyStatus_keepsParams tag st s
  unfold ownStore
  refine .ite (hrefused _) ?_
  split
  · exact reply_keepsParams tag _ _ s
  · exact .ite (hrefused _) (.ite (hrefused _) (.of_same rfl rfl))

theorem ownErase_keepsParams (tag : Byte) (p : List Byte) (s : State) : KeepsParams s (ownErase tag p s) := by
  unfold ownErase
  refine .ite ?_ (replyStatus_keepsParams tag _ s)
  split
  · exact replyStatus_keepsParams tag _ s
  · exact .of_same rfl rfl

theorem ownSetCodeFlags_keepsParams (tag : Byte) (p : List Byte) (s : State) :
    KeepsParams s (ownSetCodeFlags tag p s) := by
  unfold ownSetCodeFlags
  dsimp only
  split
  · exact replyStatus_keepsParams tag _ s
  · refine .ite ?_ (replyStatus_keepsParams tag _ s)
    split
    · exact replyStatus_keepsParams tag _ s
    · exact .of_same rfl rfl

theorem ownReadCode_keepsParams (tag : Byte) (p : List Byte) (s : State) : KeepsParams s (ownReadCode tag p s) := by
  unfold ownReadCode
  refine .ite ?_ (replyStatus_keepsParams tag _ s)
  split
  · exact replyStatus_keepsParams tag _ s
  · exact reply_keepsParams tag _ _ s

theorem ownListCodes_keepsParams (tag : Byte) (p : List Byte) (s : State) : KeepsParams s (ownListCodes tag p s) :=
  .ite (reply_keepsParams tag _ _ s) (replyStatus_keepsParams tag _ s)

/-! ### The job requests and EMITTER_CONTROL -/

theorem cancelJob_keepsParams (id : Nat) (s : State) : KeepsParams s (cancelJob id s) :=
  .of_changes (cancelJob_changes Blocks.besideOpc_emission id s)

theorem releaseJob_keepsParams (id : Nat) (s : State) : KeepsParams s (releaseJob id s) :=
  .of_changes (releaseJob_changes Blocks.besideOpc_emission id s)

theorem admitHostJob_keepsParams (tag : Byte) (mask : Mask) (kind : JobKind) (s : State) :
    KeepsParams s (admitHostJob tag mask kind s) := by
  have hadmitted (more : List Byte) :
      KeepsParams s (reply tag .accepted more (admitJob (.host tag) kind mask true s)) := .of_same rfl rfl
  unfold admitHostJob
  split
  · exact replyStatus_keepsParams tag _ s
  · exact (hadmitted _).trans (examine_keepsParams _)

theorem ownSend_keepsParams (tag : Byte) (p : List Byte) (s : State) : KeepsParams s (ownSend tag p s) := by
  unfold ownSend
  split
  · exact replyStatus_keepsParams tag _ s
  · exact .ite (admitHostJob_keepsParams tag _ _ s) (replyStatus_keepsParams tag _ s)

theorem ownHold_keepsParams (tag : Byte) (p : List Byte) (s : State) : KeepsParams s (ownHold tag p s) := by
  unfold ownHold
  split
  · exact replyStatus_keepsParams tag _ s
  · exact .ite (admitHostJob_keepsParams tag _ _ s) (replyStatus_keepsParams tag _ s)

theorem ownSequence_keepsParams (tag : Byte) (p : List Byte) (s : State) : KeepsParams s (ownSequence tag p s) := by
  unfold ownSequence
  refine .ite (replyStatus_keepsParams tag _ s) ?_
  split
  · exact admitHostJob_keepsParams tag _ _ s
  · exact replyStatus_keepsParams tag _ s

theorem ownRelease_keepsParams (tag : Byte) (p : List Byte) (s : State) : KeepsParams s (ownRelease tag p s) := by
  unfold ownRelease
  dsimp only
  split
  · exact ((replyStatus_keepsParams tag _ s).trans (releaseJob_keepsParams _ _)).trans (examine_keepsParams _)
  · exact replyStatus_keepsParams tag _ s

theorem ownCancel_keepsParams (tag : Byte) (p : List Byte) (s : State) : KeepsParams s (ownCancel tag p s) := by
  unfold ownCancel
  dsimp only
  split
  · exact ((replyStatus_keepsParams tag _ s).trans (cancelJob_keepsParams _ _)).trans (examine_keepsParams _)
  · exact replyStatus_keepsParams tag _ s

theorem ownFlush_keepsParams (tag : Byte) (p : List Byte) (s : State) : KeepsParams s (ownFlush tag p s) := by
  unfold ownFlush
  split
  · exact replyStatus_keepsParams tag _ s
  · exact ((reply_keepsParams tag _ _ s).trans (.foldl (fun t id => cancelJob_keepsParams id t) _ _)).trans
      (examine_keepsParams _)

theorem ownJobStatus_keepsParams (tag : Byte) (p : List Byte) (s : State) : KeepsParams s (ownJobStatus tag p s) := by
  unfold ownJobStatus
  split
  · exact reply_keepsParams tag _ _ s
  · split
    · exact reply_keepsParams tag _ _ s
    · exact replyStatus_keepsParams tag _ s

theorem disableEmitter_keepsParams (tag : Byte) (e : Emitter) (s : State) : KeepsParams s (disableEmitter tag e s) := by
  have hfailed : KeepsParams s (failQueued e .failedOff (replyStatus tag .ok s)) :=
    (replyStatus_keepsParams tag _ s).trans (.of_changes (failQueued_changes Blocks.besideOpc_emission e _ _))
  have hdisabled (f : Channel → Channel) :
      KeepsParams s (examine (updateChannel (failQueued e .failedOff (replyStatus tag .ok s)) e f)) :=
    (hfailed.trans (updateChannel_keepsParams _ e f)).trans (examine_keepsParams _)
  unfold disableEmitter
  split
  · exact hdisabled _
  · exact hdisabled _
  · exact replyStatus_keepsParams tag _ s
  · exact replyStatus_keepsParams tag _ s
  · exact replyStatus_keepsParams tag _ s

theorem ownEmitterControl_keepsParams (tag : Byte) (p : List Byte) (s : State) :
    KeepsParams s (ownEmitterControl tag p s) := by
  have hchannel (e : Emitter) (f : Channel → Channel) : KeepsParams s (updateChannel (replyStatus tag .ok s) e f) :=
    .of_same rfl rfl
  unfold ownEmitterControl
  split
  · exact replyStatus_keepsParams tag _ s
  · split
    · exact disableEmitter_keepsParams tag _ s
    · unfold enableEmitter
      split
      · exact hchannel _ _
      · exact replyStatus_keepsParams tag _ s
      · exact replyStatus_keepsParams tag _ s
    · unfold clearFaultOf
      split
      · exact hchannel _ _
      · exact replyStatus_keepsParams tag _ s
    · exact hchannel _ _
    · exact hchannel _ _
    · exact replyStatus_keepsParams tag _ s

/-! ### The Route Table (R145, R146) -/

/-- The request is answered, and the hold of the entry released. -/
theorem routeRelease_replyStatus_keepsParams (tag : Byte) (i : Nat) (s : State) :
    KeepsParams s (routeRelease i (replyStatus tag .ok s)) :=
  (replyStatus_keepsParams tag _ s).trans (.of_changes (routeRelease_changes Blocks.besideOpc_emission i _))

theorem ownRouteSet_keepsParams (tag : Byte) (p : List Byte) (s : State) : KeepsParams s (ownRouteSet tag p s) := by
  unfold ownRouteSet
  split
  · exact replyStatus_keepsParams tag _ s
  · exact (routeRelease_replyStatus_keepsParams tag _ s).trans (.of_same rfl rfl)

theorem ownRouteClear_keepsParams (tag : Byte) (p : List Byte) (s : State) : KeepsParams s (ownRouteClear tag p s) :=
  .ite ((routeRelease_replyStatus_keepsParams tag _ s).trans (.of_same rfl rfl)) (replyStatus_keepsParams tag _ s)

theorem ownRouteRead_keepsParams (tag : Byte) (p : List Byte) (s : State) : KeepsParams s (ownRouteRead tag p s) :=
  .ite (reply_keepsParams tag _ _ s) (replyStatus_keepsParams tag _ s)

/-! ### Taking a frame (R161, R162) -/

theorem own_keepsParams (found : OpState) (kind : ReqKind) (tag : Byte) (p : List Byte) (s : State) :
    KeepsParams s (own found kind tag p s) := by
  cases kind with
  | getStatus => exact reply_keepsParams tag _ _ s
  | configure => exact ownConfigure_keepsParams tag p s
  | readConfig => exact ownReadConfig_keepsParams tag p s
  | standby => exact ownStandby_keepsParams tag s
  | reset => exact resetRequest_keepsParams s
  | learnStart => exact ownLearnStart_keepsParams tag p s
  | learnStop => exact ownLearnStop_keepsParams tag s
  | readStaged => exact ownReadStaged_keepsParams tag s
  | store => exact ownStore_keepsParams tag p s
  | erase => exact ownErase_keepsParams tag p s
  | setCodeFlags => exact ownSetCodeFlags_keepsParams tag p s
  | readCode => exact ownReadCode_keepsParams tag p s
  | listCodes => exact ownListCodes_keepsParams tag p s
  | send => exact ownSend_keepsParams tag p s
  | hold => exact ownHold_keepsParams tag p s
  | sequence => exact ownSequence_keepsParams tag p s
  | release => exact ownRelease_keepsParams tag p s
  | cancel => exact ownCancel_keepsParams tag p s
  | flush => exact ownFlush_keepsParams tag p s
  | jobStatus => exact ownJobStatus_keepsParams tag p s
  | emitterControl => exact ownEmitterControl_keepsParams tag p s
  | routeSet => exact ownRouteSet_keepsParams tag p s
  | routeClear => exact ownRouteClear_keepsParams tag p s
  | routeRead => exact ownRouteRead_keepsParams tag p s

theorem take_keepsParams (f : CheckedFrame) (s : State) : KeepsParams s (take f s) := by
  cases f with
  | rejected tag status => exact replyStatus_keepsParams tag status s
  | good kind tag p =>
    have hawake : KeepsParams s (if kind = .standby then s else returnToAwake s) :=
      .ite (.refl s) (returnToAwake_keepsParams s)
    exact hawake.trans (own_keepsParams _ kind tag p _)

theorem withLink_keepsParams (s : State) (l : Link) : KeepsParams s (s.withLink l) := .of_same rfl rfl

theorem arrive_keepsParams (f : CheckedFrame) (s : State) : KeepsParams s (arrive f s) :=
  .ite ((withLink_keepsParams s _).trans (take_keepsParams f _)) (withLink_keepsParams s _)

theorem takePending_keepsParams (s : State) : KeepsParams s (takePending s) := by
  unfold takePending
  split
  · exact .refl s
  · exact .ite ((withLink_keepsParams s _).trans (take_keepsParams _ _)) (.refl s)

/-! ### The link (R157 to R170) -/

theorem setAck_keepsParams (acked : Bool) (s : State) : KeepsParams s (setAck acked s) := .of_same rfl rfl

theorem writeEndEvent_keepsParams (s : State) : KeepsParams s (writeEndEvent s) :=
  .ite (.ite (withLink_keepsParams s _) (arrive_keepsParams _ s)) (.refl s)

theorem readEndEvent_keepsParams (s : State) : KeepsParams s (readEndEvent s) :=
  .ite (withLink_keepsParams s _) (.refl s)

theorem judgeAddress_keepsParams (read : Bool) (s : State) : KeepsParams s (judgeAddress read s) := by
  have hopens (l : Link) : KeepsParams s (setAck true (s.withLink l)) := .of_same rfl rfl
  have hwakes : KeepsParams s (if s.opc.state = .standby then beginWake .link s else s) :=
    .ite (beginWake_keepsParams .link s) (.refl s)
  unfold judgeAddress
  split
  · exact hwakes.trans (setAck_keepsParams false _)
  · exact .ite (setAck_keepsParams false s) (.ite (hopens _) (hopens _))
  · exact .ite (setAck_keepsParams false s) (hopens _)
  · exact setAck_keepsParams false s
  · exact setAck_keepsParams false s

theorem addressEvent_keepsParams (address : BitVec 7) (read : Bool) (s : State) :
    KeepsParams s (addressEvent address read s) := by
  have hend : KeepsParams s (endTransaction s) :=
    ((writeEndEvent_keepsParams s).trans (readEndEvent_keepsParams _)).trans (settleStandby_keepsParams _)
  exact hend.trans (.ite (judgeAddress_keepsParams read _) (setAck_keepsParams false _))

theorem dataByteEvent_keepsParams (b : Byte) (s : State) : KeepsParams s (dataByteEvent b s) :=
  .ite (.of_same rfl rfl) (setAck_keepsParams false s)

theorem handOff_keepsParams (acked : Bool) (s : State) : KeepsParams s (handOff acked s) :=
  .ite (.of_same rfl rfl) (.of_same rfl rfl)

theorem releasedByte_keepsParams (acked : Bool) (s : State) : KeepsParams s (releasedByte acked s) := .of_same rfl rfl

/-- A byte goes out, and what the link records of it. -/
theorem withLink_setSent_keepsParams (b : Byte) (l : Link) (s : State) : KeepsParams s ((setSent b s).withLink l) :=
  .of_same rfl rfl

theorem byteSentEvent_keepsParams (acked : Bool) (s : State) : KeepsParams s (byteSentEvent acked s) := by
  have hsent (b : Byte) (l : Link) : KeepsParams s (handOff acked ((setSent b s).withLink l)) :=
    (withLink_setSent_keepsParams b l s).trans (handOff_keepsParams acked _)
  unfold byteSentEvent
  refine .ite ?_ (releasedByte_keepsParams acked s)
  split
  · exact .ite (hsent _ _) (.refl s)
  · exact .ite (hsent _ _) (.refl s)
  · exact .refl s

theorem messageSentEvent_keepsParams (acked : Bool) (s : State) : KeepsParams s (messageSentEvent acked s) := by
  unfold messageSentEvent
  refine .ite ?_ (releasedByte_keepsParams acked s)
  split
  · exact .ite ((withLink_setSent_keepsParams _ _ s).trans (handOff_keepsParams acked _)) (.refl s)
  · exact .ite (((withLink_setSent_keepsParams _ _ s).trans (takePending_keepsParams _)).trans
      (handOff_keepsParams acked _)) (.refl s)
  · exact .refl s

theorem linkReleaseEvent_keepsParams (lowFor : Nat) (s : State) : KeepsParams s (linkReleaseEvent lowFor s) :=
  .ite (.of_same rfl rfl) (.of_same rfl rfl)

theorem hostRequest_keepsParams (kind : ReqKind) (tag : Byte) (p : List Byte) (s : State) :
    KeepsParams s (hostRequest kind tag p s) :=
  (addressEvent_keepsParams s.link.address false s).trans
    (.ite ((withLink_keepsParams _ _).trans (arrive_keepsParams _ _)) (.refl _))

/-! ### The step -/

section
variable {s t : State}

theorem advance_keepsParams (dt : Nat) (s : State) : KeepsParams s (advance dt s) := .ite (.of_same rfl rfl) (.refl s)

/-- A command keeps the parameters when its effect does: time passes before it, and standby may be entered after it. -/
theorem event_keepsParams {dt : Nat} {f : State → State} (hf : ∀ u, KeepsParams u (f u)) (h : event dt f s = .next t) :
    KeepsParams s t := by
  obtain rfl : settleStandby (f (advance dt s)) = t := by simpa [event] using h
  exact ((advance_keepsParams dt s).trans (hf _)).trans (settleStandby_keepsParams _)

theorem exec_keepsParams (c : Instr) (h : exec c s = .next t) : KeepsParams s t := by
  cases c with
  | powerOn => exact event_keepsParams (powerOnEvent_keepsParams _) h
  | rstnAsserted => exact event_keepsParams (rstnAssertedEvent_keepsParams _) h
  | rstnReleased => exact event_keepsParams rstnReleasedEvent_keepsParams h
  | powerLoss => exact event_keepsParams powerLossEvent_keepsParams h
  | mountScanComplete => exact event_keepsParams (scanCompleteEvent_keepsParams _) h
  | mountRepairCommit => exact event_keepsParams repairCommitEvent_keepsParams h
  | mountReclaimErase => exact event_keepsParams reclaimEraseEvent_keepsParams h
  | segmentVerify => exact event_keepsParams (segmentVerifyEvent_keepsParams _) h
  | commit => exact event_keepsParams commitEvent_keepsParams h
  | segmentErased => exact event_keepsParams segmentErasedEvent_keepsParams h
  | addressByte => exact event_keepsParams (addressEvent_keepsParams _ _) h
  | writeEnd => exact event_keepsParams writeEndEvent_keepsParams h
  | pendingFrameTaken => exact event_keepsParams takePending_keepsParams h
  | messageSent => exact event_keepsParams (messageSentEvent_keepsParams _) h
  | readEnd => exact event_keepsParams readEndEvent_keepsParams h
  | linkRelease => exact event_keepsParams (linkReleaseEvent_keepsParams _) h
  | dataByteWritten => exact event_keepsParams (dataByteEvent_keepsParams _) h
  | byteSent => exact event_keepsParams (byteSentEvent_keepsParams _) h
  | getStatus | configure | readConfig | standby | reset | learnStart | learnStop | readStaged | store | erase
  | setCodeFlags | readCode | listCodes | send | hold | sequence | release | cancel | flush | jobStatus | disable | enable
  | clearFault | nearOn | nearOff | routeSet | routeClear | routeRead =>
    exact event_keepsParams (hostRequest_keepsParams _ _ _) h
  | candidateMarkBegins => exact event_keepsParams (riseEvent_keepsParams _) h
  | glitchLimitReached => exact event_keepsParams (candidateEvent_keepsParams _) h
  | markEnds => exact event_keepsParams (fallEvent_keepsParams _) h
  | envelopeMarkEnd => exact event_keepsParams (takeEnvelope_keepsParams .learn) h
  | frameGapReached => exact event_keepsParams (gapEvent_keepsParams _) h
  | longMark => exact event_keepsParams (longEvent_keepsParams _) h
  | settlingDone => exact event_keepsParams (takeSettled_keepsParams _) h
  | windowExpiry => exact event_keepsParams windowEvent_keepsParams h
  | endGapExpiry => exact event_keepsParams endGapEvent_keepsParams h
  | releaseTimerExpiry => exact event_keepsParams releaseTimerEvent_keepsParams h
  | frameStart => exact event_keepsParams (frameStartEvent_keepsParams _) h
  | elementEnd => exact event_keepsParams (elementEndEvent_keepsParams _) h
  | frameEnd => exact event_keepsParams (frameEndEvent_keepsParams _) h
  | pauseEnd => exact event_keepsParams (pauseEndEvent_keepsParams _) h
  | sendStepStart => exact event_keepsParams (sendStepStartEvent_keepsParams _) h
  | holdDeadlineExpiry => exact event_keepsParams (holdDeadlineEvent_keepsParams _) h
  | openWindowClose => exact event_keepsParams (openWindowCloseEvent_keepsParams _) h
  | overcurrent => exact event_keepsParams (overcurrentEvent_keepsParams _) h
  | maskWindowClose => exact event_keepsParams (maskWindowCloseEvent_keepsParams _) h
  | carrierPulseEdge => exact event_keepsParams (pulseEdgeEvent_keepsParams _) h
  | standbyEntry => exact event_keepsParams settleStandby_keepsParams h
  | wakeCompletion => exact event_keepsParams wakeCompletionEvent_keepsParams h

/-- A step keeps the parameters in their ranges, as the command it takes does. -/
theorem step_keepsRanges (hs : ParamsInRange s) (h : step s = .next t) : ParamsInRange t := by
  unfold step at h
  split at h
  · obtain rfl : s = t := by simpa using h
    exact hs
  · next c rest _ => exact (exec_keepsParams (s := s.withPending rest) c h).ranges hs

theorem step_of_empty (h : s.pending = []) : step s = .next s := by
  unfold step
  rw [h]

end

/-- Settles O1: the front command by the definition of a step; each command keeps the queue with its parameters. -/
theorem stepRunsFrontCommand : Obligations.stepRunsFrontCommand := by
  refine ⟨⟨fun c rest s => rfl, fun s h => step_of_empty h⟩, fun c s => ?_⟩
  obtain ⟨u, hu⟩ := exec_settles c s
  exact ⟨_, hu, (exec_keepsParams c hu).pending⟩

end Sys2Proof.Machine
end

section
/-! Resets, standby and wake (R182 to R187): the reset values, the five readiness conditions together, and the moment of the
wake completion. -/

namespace Sys2Proof.Machine

/-! ### Resets (R33, R182, R183) -/

section
variable {s : State} {straps : Straps}

/-- The part that a reset leaves has every block at its reset values. -/
theorem resetValues_resetPart (cause : ResetCause) (a : BitVec 7) (stage : MountStage) (s : State) :
    ResetValues cause a (resetPart cause a stage s) :=
  ⟨rfl, rfl, rfl, rfl, rfl, rfl, rfl, rfl, rfl, rfl, rfl, rfl, rfl, rfl, fun e => by cases e <;> rfl⟩

/-- The levels of the supply and of RSTN are no reset value. -/
theorem resetValues_setSupply {cause : ResetCause} {a : BitVec 7} {powered rstnLow : Bool} :
    ResetValues cause a (setSupply powered rstnLow s) ↔ ResetValues cause a s := Iff.rfl

/-- A reset leaves the levels of the supply and of RSTN (R182). -/
theorem resetPart_levels (cause : ResetCause) (a : BitVec 7) (stage : MountStage) (s : State) :
    (resetPart cause a stage s).pins.powered = s.pins.powered ∧
      (resetPart cause a stage s).pins.rstnLow = s.pins.rstnLow := by
  have hpins : (cutLibrary s).pins = s.pins := (cutLibrary_changes s).pins rfl
  simp [resetPart, hpins]

/-- The part is then in MOUNTING, so its step enters no standby. -/
theorem settleStandby_setSupply_resetPart {cause : ResetCause} {a : BitVec 7} {stage : MountStage}
    {powered rstnLow : Bool} :
    settleStandby (setSupply powered rstnLow (resetPart cause a stage s)) =
      setSupply powered rstnLow (resetPart cause a stage s) :=
  settleStandby_of_mounting rfl

theorem rstnAssertedEvent_falls (hlow : s.pins.rstnLow = false) (hpow : s.pins.powered = true) :
    rstnAssertedEvent straps s = setSupply true true (resetPart .pin (portAddress straps) .notBegun s) := by
  rw [rstnAssertedEvent, if_neg (by simp [hlow]), if_pos hpow]

theorem powerLossEvent_powered (hpow : s.pins.powered = true) :
    powerLossEvent s = setSupply false s.pins.rstnLow (resetPart .power s.link.address .notBegun s) := by
  rw [powerLossEvent, if_pos hpow]

theorem rstnReleasedEvent_rises (hlow : s.pins.rstnLow = true) (hpow : s.pins.powered = true) :
    rstnReleasedEvent s = setMount (.scanning (s.now + scanTime)) 0 0 (setSupply true false s) := by
  rw [rstnReleasedEvent, if_pos hlow, if_pos hpow, hpow]
  rfl

end

/-- Settles O11: each reset makes the part of `resetPart`, with its cause, address and stage of mount. -/
theorem resetsTakeResetValues : Obligations.resetsTakeResetValues := by
  intro dt straps tag s u
  refine ⟨?_, fun hlow hpow => ?_, fun hopen => ?_, fun hpow => ?_, fun hlow hpow hmounting => ?_⟩
  · have hevent : exec (.powerOn dt straps) s = .next (settleStandby (powerOnEvent straps u)) := rfl
    rw [powerOnEvent, settleStandby_setSupply_resetPart] at hevent
    exact ⟨_, hevent, resetValues_setSupply.2 (resetValues_resetPart _ _ _ u), rfl, rfl, rfl⟩
  · have hevent : exec (.rstnAsserted dt straps) s = .next (settleStandby (rstnAssertedEvent straps u)) := rfl
    rw [rstnAssertedEvent_falls hlow hpow, settleStandby_setSupply_resetPart] at hevent
    exact ⟨_, hevent, resetValues_setSupply.2 (resetValues_resetPart _ _ _ u), rfl, rfl, rfl⟩
  · have hevent : exec (.reset dt tag) s = .next (settleStandby (hostRequest .reset tag [] u)) := rfl
    rw [hostRequest_reset hopen, resetRequest, settleStandby_of_mounting rfl] at hevent
    obtain ⟨hpowered, hrstn⟩ := resetPart_levels .request u.link.address (.scanning scanTime) (found u)
    exact ⟨_, hevent, resetValues_resetPart _ _ _ (found u), hpowered, hrstn, rfl⟩
  · have hevent : exec (.powerLoss dt) s = .next (settleStandby (powerLossEvent u)) := rfl
    rw [powerLossEvent_powered hpow, settleStandby_setSupply_resetPart] at hevent
    exact ⟨_, hevent, resetValues_setSupply.2 (resetValues_resetPart _ _ _ u), rfl, rfl, rfl⟩
  · have hevent : exec (.rstnReleased dt) s = .next (settleStandby (rstnReleasedEvent u)) := rfl
    rw [hevent, rstnReleasedEvent_rises hlow hpow, settleStandby_of_mounting (by exact hmounting), ← hpow]
    rfl

/-! ### Standby (R184, R185) -/

section
variable {s : State}

theorem readyForStandby_iff :
    readyForStandby s = true ↔
      s.link.state = .idle ∧ s.link.queue = [] ∧ s.link.held = none ∧ s.ems.jobs = [] ∧ s.lrn.session = none ∧
        s.lib.op = none ∧ s.rcg.press = none := by
  simp only [readyForStandby, linkAtRest, noLiveJob, noLearnSession, noLibraryOperation, pressIdle, Bool.and_eq_true,
    List.isEmpty_iff, Option.isNone_iff_eq_none, decide_eq_true_eq]
  tauto

/-- With the five conditions together the part enters STANDBY (R185). -/
theorem settleStandby_of_ready (hpending : s.opc.state = .standbyPending) (hready : readyForStandby s = true) :
    settleStandby s = enterStandby s :=
  if_pos ⟨hpending, hready⟩

/-! ### Wake (R186, R187) -/

/-- The frames kept for the wake reach neither the operating state nor the parameters. -/
theorem opc_foldl_actOnFrame (kept : List (List Nat)) (s : State) : (kept.foldl (fun s d => actOnFrame d s) s).opc = s.opc :=
  (Changes.foldl (fun s d => actOnFrame_changes Blocks.besideOpc_pressing d s) kept s).opc rfl

theorem wakeCompletionEvent_due {cause : WakeCause} (hwaking : s.opc.state = .waking) (hcause : s.opc.wake = some cause)
    (hdue : s.opc.wakeDue ≤ s.now) :
    wakeCompletionEvent s =
      s.rcg.kept.foldl (fun s d => actOnFrame d s)
        (notified (.wake cause)
          { s with
            opc := { s.opc with state := .awake, wake := none }
            link := { s.link with state := .idle }
            rcg := { s.rcg with kept := [] } }) := by
  unfold wakeCompletionEvent
  rw [hwaking, hcause]
  exact if_pos hdue

theorem wakeCompletionEvent_not_due (h : s.opc.state ≠ .waking ∨ s.now < s.opc.wakeDue) : wakeCompletionEvent s = s := by
  unfold wakeCompletionEvent
  split
  · next hwaking _ => exact if_neg (Nat.not_le.2 (h.resolve_left (not_not_intro hwaking)))
  · rfl

end

/-- Settles O13: the entry to standby ends the step in which the five conditions hold, the wake ends with the kept frames. -/
theorem standbyAndWake : Obligations.standbyAndWake := by
  constructor
  · intro dt tag s u
    refine ⟨fun hready => ?_, fun hpending hidle hqueue hheld hjobs hsession hop hpress => ?_,
      fun hpending hsending hqueue hheld hjobs hsession hop hpress => ?_, fun hsettled => ?_⟩
    · have hevent : exec (.standby dt tag) s = .next (settleStandby (hostRequest .standby tag [] u)) := rfl
      rw [hevent, hostRequest_of_ready hready tag [] rfl, if_pos rfl, settleStandby_of_queue]
      · rfl
      · simp [own, ownStandby, replyStatus, reply, Link.append]
    · have hevent : exec (.standbyEntry dt) s = .next (settleStandby (settleStandby u)) := rfl
      have hready : readyForStandby u = true :=
        readyForStandby_iff.2 ⟨hidle, hqueue, hheld, hjobs, hsession, hop, hpress⟩
      rw [hevent, settleStandby_of_settled (standbySettled_settleStandby u), settleStandby_of_ready hpending hready]
      rfl
    · have hevent : exec (.readEnd dt) s = .next (settleStandby (readEndEvent u)) := rfl
      have hended : readEndEvent u =
          u.withLink { u.link with state := .idle, readPos := 0, emptyPos := none, handedOff := false } := by
        simp [readEndEvent, endRead, hsending, hheld]
      have hready : readyForStandby (readEndEvent u) = true := by
        rw [hended]
        exact readyForStandby_iff.2 ⟨rfl, hqueue, hheld, hjobs, hsession, hop, hpress⟩
      rw [hevent, settleStandby_of_ready (by rw [hended]; exact hpending) hready, hended]
      rfl
    · exact event_of_settled hsettled (settleStandby_of_settled hsettled) (.refl u)
  · intro dt cause s u
    have hevent : exec (.wakeCompletion dt) s = .next (settleStandby (wakeCompletionEvent u)) := rfl
    refine ⟨fun hwaking hcause hdue => ?_, fun h => ?_⟩
    · rw [hevent, wakeCompletionEvent_due hwaking hcause hdue, settleStandby_of_ne]
      rw [opc_foldl_actOnFrame]
      simp [notified]
    · rw [hevent, wakeCompletionEvent_not_due h]

end Sys2Proof.Machine
end

section
/-! CONFIGURE, READ_CONFIG and GET_STATUS (R174, R188 to R190). -/

namespace Sys2Proof.Machine

section
variable {dt : Nat} {tag : Byte} {p : List Byte} {s : State}

/-! ### CONFIGURE (R174, R188) -/

theorem exec_configure_of_ready (h : PortReady .configure (advance dt s)) (hmin : 3 ≤ p.length) (hmax : p.length ≤ 42) :
    exec (.configure dt tag p) s = .next (settleStandby (ownConfigure tag p (found (advance dt s)))) :=
  event_of_ready h (by simp) (by simp [lengthFits, ReqKind.lengths, hmin, hmax])

theorem ownConfigure_badLength (h : p.length % 3 ≠ 0) : ownConfigure tag p s = replyStatus tag .badLength s := by
  simp [ownConfigure, payloadAgrees, h]

theorem ownConfigure_badPair {i : Nat} (hlen : p.length % 3 = 0)
    (h : (configPairs p).findIdx? (fun x => !paramOk x.1 x.2) = some i) :
    ownConfigure tag p s = reply tag .badArgument [byte i] s := by
  simp [ownConfigure, payloadAgrees, hlen, h]

theorem configPairs_ne_nil (h : 3 ≤ p.length) : configPairs p ≠ [] := by
  match p, h with
  | _ :: _ :: _ :: _, _ => simp [configPairs]

/-! ### READ_CONFIG (R189) -/

/-- The parameter ids are 01h to 0Eh (Table 12-4). -/
theorem paramRange_isNone (id : Nat) : (paramRange id).isNone = !decide (0x01 ≤ id ∧ id ≤ 0x0E) := by
  unfold paramRange
  split
  case h_15 =>
    have hout : ¬(0x01 ≤ id ∧ id ≤ 0x0E) := by
      rintro ⟨hmin, hmax⟩
      interval_cases id <;> contradiction
    simp [hout]
  all_goals rfl

theorem exec_readConfig_of_ready (h : PortReady .readConfig (advance dt s)) (hmin : 1 ≤ p.length) (hmax : p.length ≤ 14) :
    exec (.readConfig dt tag p) s = .next (settleStandby (ownReadConfig tag p (found (advance dt s)))) :=
  event_of_ready h (by simp) (by simp [lengthFits, ReqKind.lengths, hmin, hmax])

theorem ownReadConfig_badId {i : Nat}
    (h : p.findIdx? (fun id => !decide (0x01 ≤ id.toNat ∧ id.toNat ≤ 0x0E)) = some i) :
    ownReadConfig tag p s = reply tag .badArgument [byte i] s := by
  simp only [ownReadConfig, paramRange_isNone, h]

theorem ownReadConfig_answered (h : ∀ id ∈ p, 0x01 ≤ id.toNat ∧ id.toNat ≤ 0x0E) :
    ownReadConfig tag p s = reply tag .ok (p.flatMap (configTriple s.opc.params)) s := by
  have hgood : p.findIdx? (fun id => !decide (0x01 ≤ id.toNat ∧ id.toNat ≤ 0x0E)) = none := by
    rw [List.findIdx?_eq_none_iff]; simpa using h
  simp only [ownReadConfig, paramRange_isNone, hgood]

end

/-- Settles O14: the refusals and the pairs by the request's rules, the ranges by what every step keeps. -/
theorem configureSetsParameters : Obligations.configureSetsParameters := by
  refine ⟨fun dt tag p s hready hmin hmax => ?_, fun s t hs hstep => step_keepsRanges hs hstep⟩
  have hexec := exec_configure_of_ready (tag := tag) hready hmin hmax
  refine ⟨fun hlen => ?_, fun i hlen hbad => ?_, fun hlen hok hothers => ?_, fun hp hsense hawaiting => ?_⟩
  · rw [hexec, ownConfigure_badLength hlen, replyStatus_found, settleStandby_answered]
  · rw [hexec, ownConfigure_badPair hlen hbad, reply_found, settleStandby_answered]
  · rw [exec_configure_accepted hready (configPairs_ne_nil hmin) hmax hlen hok, foldl_applyPair_others hothers,
      settleStandby_of_ne (by simp [setParams, answered, found])]
    rfl
  · subst hp
    have hpairs : configPairs [0x0B, 0x00, 0x00] = [] ++ (0x0B, 0) :: [] := rfl
    have hok : ∀ y ∈ configPairs [0x0B, 0x00, 0x00], paramOk y.1 y.2 = true := by decide
    let v : State := setParams ((advance dt s).opc.params.updateAll []) (answered tag .ok [] (advance dt s))
    have hset : applyPair v (0x0B, 0) = ctxOff .sense (setParams (v.opc.params.update 0x0B 0) v) :=
      (applyPair_disables (s := v) hsense).trans (discarding_unawaited hawaiting)
    rw [exec_configure_split hready hmax rfl hpairs hok (by simp) hset rfl]
    rfl

/-- Settles O15: the ids are checked first, then each has its triple. -/
theorem readConfigAnswersValues : Obligations.readConfigAnswersValues := by
  intro dt tag p s u hready hmin hmax
  have hexec := exec_readConfig_of_ready (tag := tag) hready hmin hmax
  refine ⟨fun i hbad => ?_, fun hgood => ?_⟩
  · rw [hexec, ownReadConfig_badId hbad, reply_found, settleStandby_answered]
  · rw [hexec, ownReadConfig_answered hgood, reply_found, settleStandby_answered]
    rfl

/-- Settles O16: the summary of the found state is that of the state before the request, byte by byte. -/
theorem getStatusReports : Obligations.getStatusReports := by
  intro dt tag s u ofEmitter summary
  have hsummary : statusSummary u.opc.state u = summary := by
    simp [statusSummary, summary, ofEmitter, emitters, emitterStatus, headOf]
  refine ⟨fun hready => ?_, by rw [← hsummary]; exact length_statusSummary _ u⟩
  have hexec : exec (.getStatus dt tag) s = .next (settleStandby (ownGetStatus u.opc.state tag (found u))) :=
    event_of_ready hready (by simp) rfl
  have hfound : statusSummary u.opc.state (found u) = statusSummary u.opc.state u := rfl
  rw [hexec, ownGetStatus, hfound, hsummary, reply_found, settleStandby_answered]

end Sys2Proof.Machine
end

section
/-! The new part right after reset (R182): an empty library, a closed port, and a mount in its scan. -/

namespace Sys2Proof.Machine

theorem resetValues_reset : ResetValues .power 0x3A State.reset :=
  ⟨rfl, rfl, rfl, rfl, rfl, rfl, rfl, rfl, rfl, rfl, rfl, rfl, rfl, rfl, fun e => by cases e <;> rfl⟩

/-- The empty tables are in canonical form (R15, R16, R80, R144). -/
theorem tablesCanonical_reset : TablesCanonical State.reset := ⟨rfl, rfl, rfl, rfl⟩

/-- The part is in MOUNTING with its port closed, so none of the invariants of sleep asks anything (R170, R185). -/
theorem portInvariants_reset :
    PortFollowsState State.reset ∧ QuietInStandby State.reset ∧ StandbySettled State.reset := by
  have hmounting : State.reset.opc.state = .mounting := rfl
  refine ⟨⟨fun _ => rfl, fun _ => rfl⟩, ?_, ?_⟩
  · simp [QuietInStandby, hmounting]
  · simp [StandbySettled, hmounting]

/-- No job, no link, and every channel in use (R99 to R103). -/
theorem queuesSound_reset : QueuesSound State.reset := by
  have hqueue (e : Emitter) : State.reset.ems.queues.get e = [] := PerEmitter.get_all [] e
  have hchannel (e : Emitter) : State.reset.channels.get e = Channel.reset := PerEmitter.get_all Channel.reset e
  have hjobs : State.reset.ems.jobs = [] := rfl
  refine queuesSound_iff.2 ⟨⟨Nat.zero_le _, fun e => ?_, Nat.zero_le _, Nat.zero_le _⟩, ?_, fun e e' a b hab => ?_,
    fun e => ?_, nofun⟩
  · rw [hqueue]; exact Nat.zero_le _
  · simp [JobsQueued, hqueue, hjobs]
  · simp [hqueue] at hab
  · simp [hqueue, hchannel, Channel.reset]

/-- Mount waits for the end of its scan, supply on and RSTN high (R34, R182). -/
theorem mountFollowsState_reset : MountFollowsState State.reset := by
  refine ⟨?_, ?_, fun _ => rfl⟩ <;> simp [State.reset, Lib.reset, Opc.reset]

/-- No segment is anywhere before mount has sorted them (R17, R36). -/
theorem segmentsPlaced_reset : SegmentsPlaced State.reset := by
  have hplaces : validSegments State.reset.lib ++ State.reset.lib.free ++ opChains State.reset.lib ++
      toReclaim State.reset.lib = [] := rfl
  have hscanning : ¬sorted State.reset.lib := by simp [sorted, State.reset, Lib.reset]
  unfold SegmentsPlaced
  rw [hplaces]
  exact ⟨.nil, nofun, fun h => absurd h hscanning, fun _ => rfl, ⟨.nil, nofun⟩, nofun⟩

/-- The index is empty until mount has ended (R80, R81). -/
theorem indexFollowsDirectory_reset : IndexFollowsDirectory State.reset := by
  simp [IndexFollowsDirectory, State.reset, Lib.reset, Rec.reset]

theorem linkBounded_reset : PlacesBounded State.reset ∧ BytesBounded State.reset := by
  refine ⟨by unfold PlacesBounded; decide, by decide, nofun⟩

/-- Nothing is stored, staged or captured (R6, R40). -/
theorem recordsBounded_reset : RecordsBounded State.reset :=
  ⟨nofun, nofun, nofun, nofun, Context.bounded_reset, Context.bounded_reset⟩

/-- Settles O60: each invariant by what the new part holds of the blocks it asks. -/
theorem resetMeetsInvariants : Obligations.resetMeetsInvariants := by
  obtain ⟨hport, hquiet, hsettled⟩ := portInvariants_reset
  obtain ⟨hbounded, hqueued, hordered, hfollows, hlinks⟩ := queuesSound_iff.1 queuesSound_reset
  obtain ⟨hplaces, hbytes⟩ := linkBounded_reset
  exact ⟨tablesCanonical_reset, hport, hquiet, hsettled, hbounded, hqueued, hordered, hfollows, hlinks,
    paramsInRange_of_reset rfl, indexFollowsDirectory_reset, hplaces, hbytes, recordsBounded_reset,
    mountFollowsState_reset, segmentsPlaced_reset, resetValues_reset⟩

end Sys2Proof.Machine
end
